-- ==== Sys2Proof/Word.lean ====
section
/-! DEFINITION. The word types of the block: bytes, 32-bit words, the 16-word message block, the 80-word
message schedule and the five-word tuple used for the persistent state H and for the working variables
(00_scope.md R7, R10; 10_state.md R30, R33). -/

namespace Sys2Proof

/-- A byte of a message, of a padded message or of a digest (00_scope.md R13). -/
abbrev Byte := BitVec 8

/-- WORD, 32 bits, bit 31 the most significant (00_scope.md R7, R10). -/
abbrev Word := BitVec 32

/-- One 64-byte block held as 16 big-endian words (10_state.md R34, R51). -/
abbrev Block := Vector Word 16

/-- The message schedule W[0..79] (10_state.md R39). -/
abbrev Sched := Vector Word 80

/-- Five 32-bit words (A, B, C, D, E): the persistent state H[0..4] (10_state.md R36) and the working
variables a, b, c, d, e (10_state.md R38) have this shape. -/
structure FiveWords where
  /-- H[0], or working variable a. -/
  a : Word
  /-- H[1], or working variable b. -/
  b : Word
  /-- H[2], or working variable c. -/
  c : Word
  /-- H[3], or working variable d. -/
  d : Word
  /-- H[4], or working variable e. -/
  e : Word
  deriving DecidableEq, Repr

end Sys2Proof
end

