-- ==== Sys2Proof/Config.lean ====
section
/-! DEFINITION. What the model fixes where the spec leaves the value open: the reset values the spec calls
unspecified (70_reset_and_hazards.md R293). Each is a DESIGN CHOICE of the model, notes/assumptions/5.md.
The open parameters of 00_scope.md R9 need no constant here: the latency is the interleaving held in
State.inputs, and N_INST and each BASE are data of Machine/Platform.lean. -/

namespace Sys2Proof.Config

/-- Reset value of each working variable a..e. DESIGN CHOICE (log 5): R293 says "any fixed value". -/
def resetWorkingWord : Word := 0#32

/-- Reset value of each schedule word W[0..79]. DESIGN CHOICE (log 5): R293 says "any fixed value". -/
def resetScheduleWord : Word := 0#32

/-- Reset value of the round counter t. DESIGN CHOICE (log 5); R51 gives its range 0 to 80. -/
def resetRoundCounter : Nat := 0

/-- Reset value of the expansion index j. DESIGN CHOICE (log 5); R51 gives its range 16 to 80. -/
def resetExpansionIndex : Nat := 16

end Sys2Proof.Config
end

