-- ==== Sys2Proof/Syntax.lean ====
section
/-! DEFINITION. The instructions of the block: one constructor per row of spec/opcode_table.json, in the
table's order. The first five are command words (format CMD), the others host transactions (format BUS)
(30_encoding.md R100, R103, R106). -/

namespace Sys2Proof

/-- One row of the opcode table, with the operands its encoding carries. A read carries no DATA: it is
"written as 0 for WR = 0 and ignored" (30_encoding.md R101). -/
inductive Instr where
  /-- NOP (43_commands.md R202). -/
  | nop
  /-- INIT (43_commands.md R203). -/
  | init
  /-- BLOCK (43_commands.md R204). -/
  | block
  /-- FINAL n, n = CMD[13:8] (43_commands.md R206; 30_encoding.md R104). -/
  | final (n : BitVec 6)
  /-- CMD_ILLEGAL: every command word that is not well formed (30_encoding.md R107; 43_commands.md R208). -/
  | cmdIllegal (word : BitVec 32)
  /-- RD_ID (44_register_access.md R232). -/
  | rdId
  /-- RD_CMD (44_register_access.md R233). -/
  | rdCmd
  /-- RD_STATUS (44_register_access.md R234). -/
  | rdStatus
  /-- RD_IE (44_register_access.md R235). -/
  | rdIe
  /-- RD_MVALID (44_register_access.md R236). -/
  | rdMvalid
  /-- RD_LEN_LO (44_register_access.md R237). -/
  | rdLenLo
  /-- RD_LEN_HI (44_register_access.md R238). -/
  | rdLenHi
  /-- RD_MSG0 (44_register_access.md R239). -/
  | rdMsg0
  /-- RD_MSG1 (44_register_access.md R239). -/
  | rdMsg1
  /-- RD_MSG2 (44_register_access.md R239). -/
  | rdMsg2
  /-- RD_MSG3 (44_register_access.md R239). -/
  | rdMsg3
  /-- RD_MSG4 (44_register_access.md R239). -/
  | rdMsg4
  /-- RD_MSG5 (44_register_access.md R239). -/
  | rdMsg5
  /-- RD_MSG6 (44_register_access.md R239). -/
  | rdMsg6
  /-- RD_MSG7 (44_register_access.md R239). -/
  | rdMsg7
  /-- RD_MSG8 (44_register_access.md R239). -/
  | rdMsg8
  /-- RD_MSG9 (44_register_access.md R239). -/
  | rdMsg9
  /-- RD_MSG10 (44_register_access.md R239). -/
  | rdMsg10
  /-- RD_MSG11 (44_register_access.md R239). -/
  | rdMsg11
  /-- RD_MSG12 (44_register_access.md R239). -/
  | rdMsg12
  /-- RD_MSG13 (44_register_access.md R239). -/
  | rdMsg13
  /-- RD_MSG14 (44_register_access.md R239). -/
  | rdMsg14
  /-- RD_MSG15 (44_register_access.md R239). -/
  | rdMsg15
  /-- RD_DIGEST0 (44_register_access.md R240). -/
  | rdDigest0
  /-- RD_DIGEST1 (44_register_access.md R240). -/
  | rdDigest1
  /-- RD_DIGEST2 (44_register_access.md R240). -/
  | rdDigest2
  /-- RD_DIGEST3 (44_register_access.md R240). -/
  | rdDigest3
  /-- RD_DIGEST4 (44_register_access.md R240). -/
  | rdDigest4
  /-- WR_CMD (44_register_access.md R242). -/
  | wrCmd (data : Word)
  /-- WR_IE (44_register_access.md R243). -/
  | wrIe (data : Word)
  /-- WR_MSG0 (44_register_access.md R244, R245). -/
  | wrMsg0 (data : Word)
  /-- WR_MSG1 (44_register_access.md R244, R245). -/
  | wrMsg1 (data : Word)
  /-- WR_MSG2 (44_register_access.md R244, R245). -/
  | wrMsg2 (data : Word)
  /-- WR_MSG3 (44_register_access.md R244, R245). -/
  | wrMsg3 (data : Word)
  /-- WR_MSG4 (44_register_access.md R244, R245). -/
  | wrMsg4 (data : Word)
  /-- WR_MSG5 (44_register_access.md R244, R245). -/
  | wrMsg5 (data : Word)
  /-- WR_MSG6 (44_register_access.md R244, R245). -/
  | wrMsg6 (data : Word)
  /-- WR_MSG7 (44_register_access.md R244, R245). -/
  | wrMsg7 (data : Word)
  /-- WR_MSG8 (44_register_access.md R244, R245). -/
  | wrMsg8 (data : Word)
  /-- WR_MSG9 (44_register_access.md R244, R245). -/
  | wrMsg9 (data : Word)
  /-- WR_MSG10 (44_register_access.md R244, R245). -/
  | wrMsg10 (data : Word)
  /-- WR_MSG11 (44_register_access.md R244, R245). -/
  | wrMsg11 (data : Word)
  /-- WR_MSG12 (44_register_access.md R244, R245). -/
  | wrMsg12 (data : Word)
  /-- WR_MSG13 (44_register_access.md R244, R245). -/
  | wrMsg13 (data : Word)
  /-- WR_MSG14 (44_register_access.md R244, R245). -/
  | wrMsg14 (data : Word)
  /-- WR_MSG15 (44_register_access.md R244, R245). -/
  | wrMsg15 (data : Word)
  /-- WR_RO_ID (44_register_access.md R246). -/
  | wrRoId (data : Word)
  /-- WR_RO_STATUS (44_register_access.md R246). -/
  | wrRoStatus (data : Word)
  /-- WR_RO_MVALID (44_register_access.md R246). -/
  | wrRoMvalid (data : Word)
  /-- WR_RO_LEN_LO (44_register_access.md R246). -/
  | wrRoLenLo (data : Word)
  /-- WR_RO_LEN_HI (44_register_access.md R246). -/
  | wrRoLenHi (data : Word)
  /-- WR_RO_DIGEST0 (44_register_access.md R246). -/
  | wrRoDigest0 (data : Word)
  /-- WR_RO_DIGEST1 (44_register_access.md R246). -/
  | wrRoDigest1 (data : Word)
  /-- WR_RO_DIGEST2 (44_register_access.md R246). -/
  | wrRoDigest2 (data : Word)
  /-- WR_RO_DIGEST3 (44_register_access.md R246). -/
  | wrRoDigest3 (data : Word)
  /-- WR_RO_DIGEST4 (44_register_access.md R246). -/
  | wrRoDigest4 (data : Word)
  /-- RD_UNMAPPED: a read of a misaligned or reserved offset (44_register_access.md R241). -/
  | rdUnmapped (addr : BitVec 8)
  /-- WR_UNMAPPED: a write to a misaligned or reserved offset (44_register_access.md R247). -/
  | wrUnmapped (addr : BitVec 8) (data : Word)
  deriving DecidableEq, Repr

end Sys2Proof
end

