-- ==== Sys2Proof/WellFormed.lean ====
section
/-! DEFINITION. Which instruction terms an encoding can give. Only the three rows that decode last constrain
their operands (opcode_table.json notes; 30_encoding.md R106, R107): every other operand has exactly the
width of its field. -/

namespace Sys2Proof

/-- The command words of the rows NOP, INIT, BLOCK and FINAL, by the table's match and mask. A word outside
them is illegal (30_encoding.md R103, R107). -/
def definedCommandWord (word : BitVec 32) : Bool :=
  word == 0x00000000#32 || word == 0x00000001#32 || word == 0x00000002#32
    || word &&& 0xFFFFC0FF#32 == 0x00000003#32

/-- The offsets that hold a register: word-aligned, 0x00 to 0x18 and 0x20 to 0x70. The others are misaligned
or reserved (20_memory.md R74, R75; 30_encoding.md R106). -/
def registerOffset (addr : BitVec 8) : Bool :=
  addr.toNat % 4 == 0 && (addr.toNat ≤ 0x18 || (0x20 ≤ addr.toNat && addr.toNat ≤ 0x70))

/-- The check an instruction term passes when some transaction or command word stands for it. -/
def Instr.wellFormed : Instr → Bool
  | .cmdIllegal word => !definedCommandWord word
  | .rdUnmapped addr => !registerOffset addr
  | .wrUnmapped addr _ => !registerOffset addr
  | .nop | .init | .block | .final _ | .rdId | .rdCmd | .rdStatus | .rdIe | .rdMvalid | .rdLenLo |
    .rdLenHi | .rdMsg0 | .rdMsg1 | .rdMsg2 | .rdMsg3 | .rdMsg4 | .rdMsg5 | .rdMsg6 | .rdMsg7 | .rdMsg8 |
    .rdMsg9 | .rdMsg10 | .rdMsg11 | .rdMsg12 | .rdMsg13 | .rdMsg14 | .rdMsg15 | .rdDigest0 | .rdDigest1 |
    .rdDigest2 | .rdDigest3 | .rdDigest4 | .wrCmd _ | .wrIe _ | .wrMsg0 _ | .wrMsg1 _ | .wrMsg2 _ |
    .wrMsg3 _ | .wrMsg4 _ | .wrMsg5 _ | .wrMsg6 _ | .wrMsg7 _ | .wrMsg8 _ | .wrMsg9 _ | .wrMsg10 _ |
    .wrMsg11 _ | .wrMsg12 _ | .wrMsg13 _ | .wrMsg14 _ | .wrMsg15 _ | .wrRoId _ | .wrRoStatus _ |
    .wrRoMvalid _ | .wrRoLenLo _ | .wrRoLenHi _ | .wrRoDigest0 _ | .wrRoDigest1 _ | .wrRoDigest2 _ |
    .wrRoDigest3 _ | .wrRoDigest4 _ => true

end Sys2Proof
end

