-- ==== Sys2Proof/Decode.lean ====
section
/-! DEFINITION. The two decoders (30_encoding.md R102, R103, R106, R107, R110), the byte form in which the host
lays a table word out, and the encoder, written from the same tables. -/

namespace Sys2Proof

/-- One host transaction, in one of the block's two formats (30_encoding.md R100). A CMD word stands for the
BUS write of that word to offset 0x04 (log 4). -/
inductive Request where
  /-- Format CMD, 32 bits (R102). -/
  | cmd (word : BitVec 32)
  /-- Format BUS, 41 bits (R101). -/
  | bus (word : BitVec 41)
  deriving DecidableEq, Repr

/-- Why a byte string is no transaction. -/
inductive DecodeError where
  /-- Neither 4 bytes (CMD) nor 6 bytes (BUS). -/
  | badLength (n : Nat)
  /-- A 6-byte BUS word with a bit set above bit 40. -/
  | bitAboveBusWord
  deriving DecidableEq, Repr

/-- What decoding a byte string gives. -/
inductive Decoded where
  /-- The instruction read. -/
  | instr (i : Instr)
  /-- No instruction, with the reason. -/
  | rejected (why : DecodeError)
  deriving DecidableEq, Repr

/-! ### Format CMD -/

/-- OP, bits 7:0 of a command word (30_encoding.md R102). -/
def cmdOp (v : BitVec 32) : BitVec 8 := v.extractLsb' 0 8

/-- NBYTES, bits 13:8 of a command word (30_encoding.md R102, R104). -/
def cmdNbytes (v : BitVec 32) : BitVec 6 := v.extractLsb' 8 6

/-- RSVD, bits 31:14 of a command word (30_encoding.md R102). -/
def cmdRsvd (v : BitVec 32) : BitVec 18 := v.extractLsb' 14 18

/-- A command word is well formed when OP is in 0x00..0x03, RSVD = 0, and NBYTES = 0 unless OP = 0x03
(30_encoding.md R107). -/
def cmdWellFormed (v : BitVec 32) : Bool :=
  (cmdOp v).toNat ≤ 3 && cmdRsvd v == 0#18 && (cmdNbytes v == 0#6 || cmdOp v == 3#8)

/-- The command decoder: every word is exactly one of NOP, INIT, BLOCK, FINAL n or illegal
(30_encoding.md R103, R107, R108, R110). -/
def decodeCmd (v : BitVec 32) : Instr :=
  if cmdWellFormed v then
    match (cmdOp v).toNat with
    | 0 => .nop
    | 1 => .init
    | 2 => .block
    | _ => .final (cmdNbytes v)
  else .cmdIllegal v

/-! ### Format BUS -/

/-- WR, bit 40 of a BUS word (30_encoding.md R101). -/
def busWr (w : BitVec 41) : Bool := w.getLsbD 40

/-- ADDR, bits 39:32 of a BUS word (30_encoding.md R101). -/
def busAddr (w : BitVec 41) : BitVec 8 := w.extractLsb' 32 8

/-- DATA, bits 31:0 of a BUS word (30_encoding.md R101). -/
def busData (w : BitVec 41) : Word := w.extractLsb' 0 32

/-- ADDR[1:0] is not 00 (20_memory.md R75). -/
def misaligned (addr : BitVec 8) : Bool := addr.extractLsb' 0 2 != 0#2

/-- The read column of the register table, 44_register_access.md R230: misaligned offsets first, then the
registers, then "otherwise". -/
def decodeRead (addr : BitVec 8) : Instr :=
  if misaligned addr then .rdUnmapped addr
  else
    match addr.toNat with
    | 0x00 => .rdId
    | 0x04 => .rdCmd
    | 0x08 => .rdStatus
    | 0x0C => .rdIe
    | 0x10 => .rdMvalid
    | 0x14 => .rdLenLo
    | 0x18 => .rdLenHi
    | 0x20 => .rdMsg0
    | 0x24 => .rdMsg1
    | 0x28 => .rdMsg2
    | 0x2C => .rdMsg3
    | 0x30 => .rdMsg4
    | 0x34 => .rdMsg5
    | 0x38 => .rdMsg6
    | 0x3C => .rdMsg7
    | 0x40 => .rdMsg8
    | 0x44 => .rdMsg9
    | 0x48 => .rdMsg10
    | 0x4C => .rdMsg11
    | 0x50 => .rdMsg12
    | 0x54 => .rdMsg13
    | 0x58 => .rdMsg14
    | 0x5C => .rdMsg15
    | 0x60 => .rdDigest0
    | 0x64 => .rdDigest1
    | 0x68 => .rdDigest2
    | 0x6C => .rdDigest3
    | 0x70 => .rdDigest4
    | _ => .rdUnmapped addr

/-- The write column of the register table, 44_register_access.md R231. -/
def decodeWrite (addr : BitVec 8) (data : Word) : Instr :=
  if misaligned addr then .wrUnmapped addr data
  else
    match addr.toNat with
    | 0x00 => .wrRoId data
    | 0x04 => .wrCmd data
    | 0x08 => .wrRoStatus data
    | 0x0C => .wrIe data
    | 0x10 => .wrRoMvalid data
    | 0x14 => .wrRoLenLo data
    | 0x18 => .wrRoLenHi data
    | 0x20 => .wrMsg0 data
    | 0x24 => .wrMsg1 data
    | 0x28 => .wrMsg2 data
    | 0x2C => .wrMsg3 data
    | 0x30 => .wrMsg4 data
    | 0x34 => .wrMsg5 data
    | 0x38 => .wrMsg6 data
    | 0x3C => .wrMsg7 data
    | 0x40 => .wrMsg8 data
    | 0x44 => .wrMsg9 data
    | 0x48 => .wrMsg10 data
    | 0x4C => .wrMsg11 data
    | 0x50 => .wrMsg12 data
    | 0x54 => .wrMsg13 data
    | 0x58 => .wrMsg14 data
    | 0x5C => .wrMsg15 data
    | 0x60 => .wrRoDigest0 data
    | 0x64 => .wrRoDigest1 data
    | 0x68 => .wrRoDigest2 data
    | 0x6C => .wrRoDigest3 data
    | 0x70 => .wrRoDigest4 data
    | _ => .wrUnmapped addr data

/-- The transaction decoder: WR selects the column, ADDR the row (30_encoding.md R103, R106). -/
def decodeBus (w : BitVec 41) : Instr :=
  if busWr w then decodeWrite (busAddr w) (busData w) else decodeRead (busAddr w)

/-- The instruction a transaction stands for. Total: "Both decoders are total" (30_encoding.md R110). -/
def decodeRequest : Request → Instr
  | .cmd word => decodeCmd word
  | .bus word => decodeBus word

/-! ### Bytes -/

/-- The transaction a byte string lays out, least significant byte first (log 8): 4 bytes for CMD, 6 bytes for
the 41 bits of BUS, whose seven bits above bit 40 are zero. -/
def requestOfBytes : List Byte → Except DecodeError Request
  | [b0, b1, b2, b3] => .ok (.cmd (b3 ++ b2 ++ b1 ++ b0))
  | [b0, b1, b2, b3, b4, b5] =>
    if b5.toNat ≤ 1 then .ok (.bus (b5.extractLsb' 0 1 ++ b4 ++ b3 ++ b2 ++ b1 ++ b0))
    else .error .bitAboveBusWord
  | bytes => .error (.badLength bytes.length)

/-- The decoder on bytes: total, rejecting by name. -/
def decode (bytes : List Byte) : Decoded :=
  match requestOfBytes bytes with
  | .ok r => .instr (decodeRequest r)
  | .error why => .rejected why

/-- The bytes of a table word of nbits bits (opcode_table.json numbering), the bits above nbits zero:
4 bytes up to 32 bits, 6 bytes up to 48 bits, else none (log 8). -/
def tableBytes (nbits w : Nat) : List Byte :=
  let v := w % 2 ^ nbits
  if nbits ≤ 32 then (List.range 4).map (fun k => BitVec.ofNat 8 (v / 2 ^ (8 * k)))
  else if nbits ≤ 48 then (List.range 6).map (fun k => BitVec.ofNat 8 (v / 2 ^ (8 * k)))
  else []

/-- The instruction the decoder reads from a table word. -/
def decodeTableWord (nbits w : Nat) : Option Instr :=
  match decode (tableBytes nbits w) with
  | .instr i => some i
  | .rejected _ => none

/-! ### Encoder -/

/-- The command word of OP and NBYTES, RSVD = 0 (30_encoding.md R102). -/
def cmdWord (op : BitVec 8) (nbytes : BitVec 6) : BitVec 32 := 0#18 ++ nbytes ++ op

/-- The BUS word of a read: DATA "written as 0 for WR = 0" (30_encoding.md R101). -/
def busReadWord (addr : BitVec 8) : BitVec 41 := 0#1 ++ addr ++ 0#32

/-- The BUS word of a write (30_encoding.md R101). -/
def busWriteWord (addr : BitVec 8) (data : Word) : BitVec 41 := 1#1 ++ addr ++ data

/-- The transaction of an instruction (30_encoding.md R103, R106). -/
def encode : Instr → Request
  | .nop => .cmd (cmdWord 0x00#8 0#6)
  | .init => .cmd (cmdWord 0x01#8 0#6)
  | .block => .cmd (cmdWord 0x02#8 0#6)
  | .final n => .cmd (cmdWord 0x03#8 n)
  | .cmdIllegal word => .cmd word
  | .rdId => .bus (busReadWord 0x00#8)
  | .rdCmd => .bus (busReadWord 0x04#8)
  | .rdStatus => .bus (busReadWord 0x08#8)
  | .rdIe => .bus (busReadWord 0x0C#8)
  | .rdMvalid => .bus (busReadWord 0x10#8)
  | .rdLenLo => .bus (busReadWord 0x14#8)
  | .rdLenHi => .bus (busReadWord 0x18#8)
  | .rdMsg0 => .bus (busReadWord 0x20#8)
  | .rdMsg1 => .bus (busReadWord 0x24#8)
  | .rdMsg2 => .bus (busReadWord 0x28#8)
  | .rdMsg3 => .bus (busReadWord 0x2C#8)
  | .rdMsg4 => .bus (busReadWord 0x30#8)
  | .rdMsg5 => .bus (busReadWord 0x34#8)
  | .rdMsg6 => .bus (busReadWord 0x38#8)
  | .rdMsg7 => .bus (busReadWord 0x3C#8)
  | .rdMsg8 => .bus (busReadWord 0x40#8)
  | .rdMsg9 => .bus (busReadWord 0x44#8)
  | .rdMsg10 => .bus (busReadWord 0x48#8)
  | .rdMsg11 => .bus (busReadWord 0x4C#8)
  | .rdMsg12 => .bus (busReadWord 0x50#8)
  | .rdMsg13 => .bus (busReadWord 0x54#8)
  | .rdMsg14 => .bus (busReadWord 0x58#8)
  | .rdMsg15 => .bus (busReadWord 0x5C#8)
  | .rdDigest0 => .bus (busReadWord 0x60#8)
  | .rdDigest1 => .bus (busReadWord 0x64#8)
  | .rdDigest2 => .bus (busReadWord 0x68#8)
  | .rdDigest3 => .bus (busReadWord 0x6C#8)
  | .rdDigest4 => .bus (busReadWord 0x70#8)
  | .wrCmd data => .bus (busWriteWord 0x04#8 data)
  | .wrIe data => .bus (busWriteWord 0x0C#8 data)
  | .wrRoId data => .bus (busWriteWord 0x00#8 data)
  | .wrRoStatus data => .bus (busWriteWord 0x08#8 data)
  | .wrRoMvalid data => .bus (busWriteWord 0x10#8 data)
  | .wrRoLenLo data => .bus (busWriteWord 0x14#8 data)
  | .wrRoLenHi data => .bus (busWriteWord 0x18#8 data)
  | .wrMsg0 data => .bus (busWriteWord 0x20#8 data)
  | .wrMsg1 data => .bus (busWriteWord 0x24#8 data)
  | .wrMsg2 data => .bus (busWriteWord 0x28#8 data)
  | .wrMsg3 data => .bus (busWriteWord 0x2C#8 data)
  | .wrMsg4 data => .bus (busWriteWord 0x30#8 data)
  | .wrMsg5 data => .bus (busWriteWord 0x34#8 data)
  | .wrMsg6 data => .bus (busWriteWord 0x38#8 data)
  | .wrMsg7 data => .bus (busWriteWord 0x3C#8 data)
  | .wrMsg8 data => .bus (busWriteWord 0x40#8 data)
  | .wrMsg9 data => .bus (busWriteWord 0x44#8 data)
  | .wrMsg10 data => .bus (busWriteWord 0x48#8 data)
  | .wrMsg11 data => .bus (busWriteWord 0x4C#8 data)
  | .wrMsg12 data => .bus (busWriteWord 0x50#8 data)
  | .wrMsg13 data => .bus (busWriteWord 0x54#8 data)
  | .wrMsg14 data => .bus (busWriteWord 0x58#8 data)
  | .wrMsg15 data => .bus (busWriteWord 0x5C#8 data)
  | .wrRoDigest0 data => .bus (busWriteWord 0x60#8 data)
  | .wrRoDigest1 data => .bus (busWriteWord 0x64#8 data)
  | .wrRoDigest2 data => .bus (busWriteWord 0x68#8 data)
  | .wrRoDigest3 data => .bus (busWriteWord 0x6C#8 data)
  | .wrRoDigest4 data => .bus (busWriteWord 0x70#8 data)
  | .rdUnmapped addr => .bus (busReadWord addr)
  | .wrUnmapped addr data => .bus (busWriteWord addr data)

/-- The bytes of a transaction, least significant byte first (log 8). -/
def requestBytes : Request → List Byte
  | .cmd word => (List.range 4).map (fun k => word.extractLsb' (8 * k) 8)
  | .bus word => (List.range 6).map (fun k => (word.setWidth 48).extractLsb' (8 * k) 8)

/-- The bytes of an instruction. -/
def encodeBytes (i : Instr) : List Byte := requestBytes (encode i)

/-! ### The opcode table -/

/-- One row of opcode_table.json: its mnemonic, format, match and mask. -/
structure TableRow where
  /-- The row's mnemonic, letter for letter. -/
  mnemonic : String
  /-- True for format BUS (41 bits), false for format CMD (32 bits). -/
  bus : Bool
  /-- The row's match. -/
  bits : Nat
  /-- The row's mask. -/
  mask : Nat
  deriving DecidableEq, Repr

/-- The rows of format CMD, in the table's order; CMD_ILLEGAL decodes last. -/
def cmdRows : List TableRow :=
  [ ⟨"NOP", false, 0x00000000, 0xFFFFFFFF⟩,
    ⟨"INIT", false, 0x00000001, 0xFFFFFFFF⟩,
    ⟨"BLOCK", false, 0x00000002, 0xFFFFFFFF⟩,
    ⟨"FINAL", false, 0x00000003, 0xFFFFC0FF⟩,
    ⟨"CMD_ILLEGAL", false, 0x00000000, 0x00000000⟩ ]

/-- The rows of BUS reads that name a register. -/
def readRows : List TableRow :=
  [ ⟨"RD_ID", true, 0x00000000000, 0x1FF00000000⟩,
    ⟨"RD_CMD", true, 0x00400000000, 0x1FF00000000⟩,
    ⟨"RD_STATUS", true, 0x00800000000, 0x1FF00000000⟩,
    ⟨"RD_IE", true, 0x00C00000000, 0x1FF00000000⟩,
    ⟨"RD_MVALID", true, 0x01000000000, 0x1FF00000000⟩,
    ⟨"RD_LEN_LO", true, 0x01400000000, 0x1FF00000000⟩,
    ⟨"RD_LEN_HI", true, 0x01800000000, 0x1FF00000000⟩,
    ⟨"RD_MSG0", true, 0x02000000000, 0x1FF00000000⟩,
    ⟨"RD_MSG1", true, 0x02400000000, 0x1FF00000000⟩,
    ⟨"RD_MSG2", true, 0x02800000000, 0x1FF00000000⟩,
    ⟨"RD_MSG3", true, 0x02C00000000, 0x1FF00000000⟩,
    ⟨"RD_MSG4", true, 0x03000000000, 0x1FF00000000⟩,
    ⟨"RD_MSG5", true, 0x03400000000, 0x1FF00000000⟩,
    ⟨"RD_MSG6", true, 0x03800000000, 0x1FF00000000⟩,
    ⟨"RD_MSG7", true, 0x03C00000000, 0x1FF00000000⟩,
    ⟨"RD_MSG8", true, 0x04000000000, 0x1FF00000000⟩,
    ⟨"RD_MSG9", true, 0x04400000000, 0x1FF00000000⟩,
    ⟨"RD_MSG10", true, 0x04800000000, 0x1FF00000000⟩,
    ⟨"RD_MSG11", true, 0x04C00000000, 0x1FF00000000⟩,
    ⟨"RD_MSG12", true, 0x05000000000, 0x1FF00000000⟩,
    ⟨"RD_MSG13", true, 0x05400000000, 0x1FF00000000⟩,
    ⟨"RD_MSG14", true, 0x05800000000, 0x1FF00000000⟩,
    ⟨"RD_MSG15", true, 0x05C00000000, 0x1FF00000000⟩,
    ⟨"RD_DIGEST0", true, 0x06000000000, 0x1FF00000000⟩,
    ⟨"RD_DIGEST1", true, 0x06400000000, 0x1FF00000000⟩,
    ⟨"RD_DIGEST2", true, 0x06800000000, 0x1FF00000000⟩,
    ⟨"RD_DIGEST3", true, 0x06C00000000, 0x1FF00000000⟩,
    ⟨"RD_DIGEST4", true, 0x07000000000, 0x1FF00000000⟩ ]

/-- The rows of BUS writes that name a register. -/
def writeRows : List TableRow :=
  [ ⟨"WR_CMD", true, 0x10400000000, 0x1FF00000000⟩,
    ⟨"WR_IE", true, 0x10C00000000, 0x1FF00000000⟩,
    ⟨"WR_MSG0", true, 0x12000000000, 0x1FF00000000⟩,
    ⟨"WR_MSG1", true, 0x12400000000, 0x1FF00000000⟩,
    ⟨"WR_MSG2", true, 0x12800000000, 0x1FF00000000⟩,
    ⟨"WR_MSG3", true, 0x12C00000000, 0x1FF00000000⟩,
    ⟨"WR_MSG4", true, 0x13000000000, 0x1FF00000000⟩,
    ⟨"WR_MSG5", true, 0x13400000000, 0x1FF00000000⟩,
    ⟨"WR_MSG6", true, 0x13800000000, 0x1FF00000000⟩,
    ⟨"WR_MSG7", true, 0x13C00000000, 0x1FF00000000⟩,
    ⟨"WR_MSG8", true, 0x14000000000, 0x1FF00000000⟩,
    ⟨"WR_MSG9", true, 0x14400000000, 0x1FF00000000⟩,
    ⟨"WR_MSG10", true, 0x14800000000, 0x1FF00000000⟩,
    ⟨"WR_MSG11", true, 0x14C00000000, 0x1FF00000000⟩,
    ⟨"WR_MSG12", true, 0x15000000000, 0x1FF00000000⟩,
    ⟨"WR_MSG13", true, 0x15400000000, 0x1FF00000000⟩,
    ⟨"WR_MSG14", true, 0x15800000000, 0x1FF00000000⟩,
    ⟨"WR_MSG15", true, 0x15C00000000, 0x1FF00000000⟩,
    ⟨"WR_RO_ID", true, 0x10000000000, 0x1FF00000000⟩,
    ⟨"WR_RO_STATUS", true, 0x10800000000, 0x1FF00000000⟩,
    ⟨"WR_RO_MVALID", true, 0x11000000000, 0x1FF00000000⟩,
    ⟨"WR_RO_LEN_LO", true, 0x11400000000, 0x1FF00000000⟩,
    ⟨"WR_RO_LEN_HI", true, 0x11800000000, 0x1FF00000000⟩,
    ⟨"WR_RO_DIGEST0", true, 0x16000000000, 0x1FF00000000⟩,
    ⟨"WR_RO_DIGEST1", true, 0x16400000000, 0x1FF00000000⟩,
    ⟨"WR_RO_DIGEST2", true, 0x16800000000, 0x1FF00000000⟩,
    ⟨"WR_RO_DIGEST3", true, 0x16C00000000, 0x1FF00000000⟩,
    ⟨"WR_RO_DIGEST4", true, 0x17000000000, 0x1FF00000000⟩ ]

/-- The rows of format BUS, in the table's order; the two unmapped rows decode last. -/
def busRows : List TableRow :=
  readRows ++ writeRows
    ++ [⟨"RD_UNMAPPED", true, 0x00000000000, 0x10000000000⟩, ⟨"WR_UNMAPPED", true, 0x10000000000, 0x10000000000⟩]

/-- A word lies in a row when its masked bits are the row's match. -/
def TableRow.covers (r : TableRow) (w : Nat) : Bool := w &&& r.mask == r.bits

/-- The mnemonic of the first row, in the table's order, that a word lies in. -/
def firstRow (rows : List TableRow) (w : Nat) : Option String :=
  (rows.find? (fun r => r.covers w)).map (fun r => r.mnemonic)

/-- The mnemonic of an instruction, as opcode_table.json spells it. -/
def Instr.mnemonic : Instr → String
  | .nop => "NOP"
  | .init => "INIT"
  | .block => "BLOCK"
  | .final _ => "FINAL"
  | .cmdIllegal _ => "CMD_ILLEGAL"
  | .rdId => "RD_ID"
  | .rdCmd => "RD_CMD"
  | .rdStatus => "RD_STATUS"
  | .rdIe => "RD_IE"
  | .rdMvalid => "RD_MVALID"
  | .rdLenLo => "RD_LEN_LO"
  | .rdLenHi => "RD_LEN_HI"
  | .rdMsg0 => "RD_MSG0"
  | .rdMsg1 => "RD_MSG1"
  | .rdMsg2 => "RD_MSG2"
  | .rdMsg3 => "RD_MSG3"
  | .rdMsg4 => "RD_MSG4"
  | .rdMsg5 => "RD_MSG5"
  | .rdMsg6 => "RD_MSG6"
  | .rdMsg7 => "RD_MSG7"
  | .rdMsg8 => "RD_MSG8"
  | .rdMsg9 => "RD_MSG9"
  | .rdMsg10 => "RD_MSG10"
  | .rdMsg11 => "RD_MSG11"
  | .rdMsg12 => "RD_MSG12"
  | .rdMsg13 => "RD_MSG13"
  | .rdMsg14 => "RD_MSG14"
  | .rdMsg15 => "RD_MSG15"
  | .rdDigest0 => "RD_DIGEST0"
  | .rdDigest1 => "RD_DIGEST1"
  | .rdDigest2 => "RD_DIGEST2"
  | .rdDigest3 => "RD_DIGEST3"
  | .rdDigest4 => "RD_DIGEST4"
  | .wrCmd _ => "WR_CMD"
  | .wrIe _ => "WR_IE"
  | .wrMsg0 _ => "WR_MSG0"
  | .wrMsg1 _ => "WR_MSG1"
  | .wrMsg2 _ => "WR_MSG2"
  | .wrMsg3 _ => "WR_MSG3"
  | .wrMsg4 _ => "WR_MSG4"
  | .wrMsg5 _ => "WR_MSG5"
  | .wrMsg6 _ => "WR_MSG6"
  | .wrMsg7 _ => "WR_MSG7"
  | .wrMsg8 _ => "WR_MSG8"
  | .wrMsg9 _ => "WR_MSG9"
  | .wrMsg10 _ => "WR_MSG10"
  | .wrMsg11 _ => "WR_MSG11"
  | .wrMsg12 _ => "WR_MSG12"
  | .wrMsg13 _ => "WR_MSG13"
  | .wrMsg14 _ => "WR_MSG14"
  | .wrMsg15 _ => "WR_MSG15"
  | .wrRoId _ => "WR_RO_ID"
  | .wrRoStatus _ => "WR_RO_STATUS"
  | .wrRoMvalid _ => "WR_RO_MVALID"
  | .wrRoLenLo _ => "WR_RO_LEN_LO"
  | .wrRoLenHi _ => "WR_RO_LEN_HI"
  | .wrRoDigest0 _ => "WR_RO_DIGEST0"
  | .wrRoDigest1 _ => "WR_RO_DIGEST1"
  | .wrRoDigest2 _ => "WR_RO_DIGEST2"
  | .wrRoDigest3 _ => "WR_RO_DIGEST3"
  | .wrRoDigest4 _ => "WR_RO_DIGEST4"
  | .rdUnmapped _ => "RD_UNMAPPED"
  | .wrUnmapped _ _ => "WR_UNMAPPED"

end Sys2Proof
end

