-- ==== Sys2Proof/Machine/Bytes.lean ====
section
/-! DEFINITION. The conversions between bytes and words, all big-endian (00_scope.md R13; 20_memory.md R71 to R73),
and the circular rotation (00_scope.md R12). -/

namespace Sys2Proof.Machine

/-- `rotl(x, n)`: the left circular rotation, the shift by 32 - n guarded against n = 0 (00_scope.md R12). -/
def rotl (x : Word) (n : Nat) : Word :=
  if n = 0 then x else (x <<< n) ||| (x >>> (32 - n))

/-- Byte i of a byte string; 0x00 past its end, where no rule reads (log 16). -/
def byteAt (bytes : List Byte) (i : Nat) : Byte := bytes.getD i 0#8

/-- `be32(S, k)`: the word at byte k, its first byte most significant (00_scope.md R13). -/
def be32 (bytes : List Byte) (k : Nat) : Word :=
  byteAt bytes k ++ byteAt bytes (k + 1) ++ byteAt bytes (k + 2) ++ byteAt bytes (k + 3)

/-- `ser32(w)`: the four bytes of a word, most significant first (00_scope.md R13). -/
def ser32 (w : Word) : List Byte :=
  [w.extractLsb' 24 8, w.extractLsb' 16 8, w.extractLsb' 8 8, w.extractLsb' 0 8]

/-- `ser64(v)`: the eight bytes of a 64-bit value, most significant first (00_scope.md R13). -/
def ser64 (v : BitVec 64) : List Byte :=
  [v.extractLsb' 56 8, v.extractLsb' 48 8, v.extractLsb' 40 8, v.extractLsb' 32 8,
   v.extractLsb' 24 8, v.extractLsb' 16 8, v.extractLsb' 8 8, v.extractLsb' 0 8]

/-- `zeros(n)`: n bytes of 0x00 (00_scope.md R13). -/
def zeros (n : Nat) : List Byte := List.replicate n 0x00#8

/-- Block k of a byte string: words be32(T, 64k + 4i) for i in 0..15 (41_compression.md R153; 43_commands.md R206). -/
def blockAt (bytes : List Byte) (k : Nat) : Block := Vector.ofFn (fun i => be32 bytes (64 * k + 4 * i.val))

/-- The 64 bytes of a block, `ser32(B[0]) || ... || ser32(B[15])` (43_commands.md R204). -/
def blockBytes (b : Block) : List Byte := b.toList.flatMap ser32

/-- Entry i of a schedule; 0 past its end, where no rule reads (log 16). -/
def schedWord (w : Sched) (i : Nat) : Word := w[i]?.getD 0#32

end Sys2Proof.Machine
end

