-- ==== Sys2Proof/Machine/Sha1.lean ====
section
/-! DEFINITION. The functional layer: the padding stage `Pad` and `Tail` (40_padding.md) and the compression
engine's functions `K`, `f`, schedule, `Round`, `Compress`, `Digest` and `Sha1` (41_compression.md). -/

namespace Sys2Proof.Machine

/-! ### Constants -/

/-- The IV: the five initialization constants (41_compression.md R150). -/
def iv : FiveWords := ⟨0x67452301#32, 0xEFCDAB89#32, 0x98BADCFE#32, 0x10325476#32, 0xC3D2E1F0#32⟩

/-- The round constant K(t), t in 0..79 (41_compression.md R151). -/
def roundK (t : Nat) : Word :=
  if t < 20 then 0x5A827999#32
  else if t < 40 then 0x6ED9EBA1#32
  else if t < 60 then 0x8F1BBCDC#32
  else 0xCA62C1D6#32

/-- Ch (41_compression.md R152). -/
def ch (b c d : Word) : Word := (b &&& c) ||| (~~~b &&& d)

/-- Parity (41_compression.md R152). -/
def parity (b c d : Word) : Word := b ^^^ c ^^^ d

/-- Maj (41_compression.md R152). -/
def maj (b c d : Word) : Word := (b &&& c) ||| (b &&& d) ||| (c &&& d)

/-- The mixing function f(t, b, c, d), t in 0..79 (41_compression.md R152). -/
def roundF (t : Nat) (b c d : Word) : Word :=
  if t < 20 then ch b c d
  else if t < 40 then parity b c d
  else if t < 60 then maj b c d
  else parity b c d

/-! ### Message schedule -/

/-- Schedule load: W[0..15] are the block's words, the other entries are kept (41_compression.md R153;
42_engine.md R182). -/
def loadSchedule (b : Block) (w : Sched) : Sched :=
  Vector.ofFn (fun i => if i.val < 16 then b[i.val]?.getD 0#32 else w[i])

/-- The value of entry j, from four earlier entries (41_compression.md R154). -/
def expandedWord (w : Sched) (j : Nat) : Word :=
  rotl (schedWord w (j - 16) ^^^ schedWord w (j - 14) ^^^ schedWord w (j - 8) ^^^ schedWord w (j - 3)) 1

/-- One expansion: W[j] is written (41_compression.md R154; 42_engine.md R183). -/
def expandAt (j : Nat) (w : Sched) : Sched := w.setIfInBounds j (expandedWord w j)

/-- The first n expansions, j = 16 to 15 + n, in increasing order (41_compression.md R155). -/
def expandN : Nat → Sched → Sched
  | 0, w => w
  | n + 1, w => expandAt (16 + n) (expandN n w)

/-- The whole schedule of a block (41_compression.md R153, R154). -/
def schedule (b : Block) : Sched := expandN 64 (loadSchedule b (Vector.replicate 80 0#32))

/-! ### Rounds -/

/-- One round (41_compression.md R156). -/
def round (t : Nat) (v : FiveWords) (wt : Word) : FiveWords :=
  ⟨v.e + roundF t v.b v.c v.d + rotl v.a 5 + wt + roundK t, v.a, rotl v.b 30, v.c, v.d⟩

/-- Rounds 0 to n - 1, in increasing t (41_compression.md R157). -/
def roundN : Nat → Sched → FiveWords → FiveWords
  | 0, _, v => v
  | n + 1, w, v => round n (roundN n w v) (schedWord w n)

/-- State accumulation, each sum modulo 2^32 (41_compression.md R158). -/
def accumulate (h v : FiveWords) : FiveWords :=
  ⟨h.a + v.a, h.b + v.b, h.c + v.c, h.d + v.d, h.e + v.e⟩

/-- `Compress(H, B)` (41_compression.md R159). -/
def compress (h : FiveWords) (b : Block) : FiveWords := accumulate h (roundN 80 (schedule b) h)

/-- Block iteration: `Compress` over the blocks in order (41_compression.md R160). -/
def compressAll (h : FiveWords) (blocks : List Block) : FiveWords := blocks.foldl compress h

/-- The blocks of a byte string of a multiple of 64 bytes (41_compression.md R160). -/
def blocksOf (bytes : List Byte) : List Block := (List.range (bytes.length / 64)).map (blockAt bytes)

/-- `Digest(H)`: 20 bytes (41_compression.md R161). -/
def digest (h : FiveWords) : List Byte := ser32 h.a ++ ser32 h.b ++ ser32 h.c ++ ser32 h.d ++ ser32 h.e

/-! ### Padding -/

/-- The zero-fill count Z(L) = (55 - (L mod 64)) mod 64, the result in 0..63 (40_padding.md R131). -/
def zeroFill (len : Nat) : Nat := (119 - len % 64) % 64

/-- `Pad(M)`. It has no value when 8L is not below 2^64 (40_padding.md R132, R135;
93_implementation_defined.md I1, log 10). -/
def pad (m : List Byte) : Option (List Byte) :=
  if 8 * m.length < 2 ^ 64 then
    some (m ++ [0x80#8] ++ zeros (zeroFill m.length) ++ ser64 (BitVec.ofNat 64 (8 * m.length)))
  else none

/-- The tail's length: 64 bytes when n <= 55, else 128 (40_padding.md R136). -/
def tailLength (n : Nat) : Nat := if n ≤ 55 then 64 else 128

/-- `Tail(C, n, Lb)` (40_padding.md R136). -/
def tail (c : List Byte) (n : Nat) (lb : BitVec 64) : List Byte :=
  c ++ [0x80#8] ++ zeros (tailLength n - n - 9) ++ ser64 lb

/-- `Sha1(M)`: no value where `Pad` has none (41_compression.md R162; 93_implementation_defined.md I1). -/
def sha1 (m : List Byte) : Option (List Byte) :=
  (pad m).map (fun p => digest (compressAll iv (blocksOf p)))

end Sys2Proof.Machine
end

