-- ==== Sys2Proof/Machine/State.lean ====
section
/-! DEFINITION. The state of one instance of the block (10_state.md R33), its reset value (70_reset_and_hazards.md R291),
and the reasons a step can stop. -/

namespace Sys2Proof.Machine

/-- The bus response of a transaction (20_memory.md R76). -/
inductive Resp where
  /-- `resp OKAY`. -/
  | okay
  /-- `resp ERROR`. -/
  | error
  deriving DecidableEq, Repr

/-- What a transaction answers on the port: a read gives data and response, a write a response
(00_scope.md R14). -/
inductive Response where
  /-- `BusRead(addr) -> (data, resp)`. -/
  | read (data : Word) (resp : Resp)
  /-- `BusWrite(addr, data) -> resp`. -/
  | write (resp : Resp)
  deriving DecidableEq, Repr

/-- The engine's phase (10_state.md R51; 42_engine.md R180). -/
inductive Phase where
  /-- No queued block. -/
  | idle
  /-- The next engine step is LOAD (42_engine.md R182). -/
  | load
  /-- The next engine step is EXPAND (42_engine.md R183). -/
  | expand
  /-- The next engine step is ROUND (42_engine.md R184). -/
  | round
  /-- The next engine step is ACCUM (42_engine.md R185). -/
  | accum
  deriving DecidableEq, Repr

/-- One event from outside the registers: the model's own form of the total order of 20_memory.md R80 (log 1). -/
inductive Input where
  /-- A host transaction arrives (44_register_access.md R230, R231). -/
  | request (r : Request)
  /-- The engine gets a turn before the next transaction (42_engine.md R181). -/
  | engine
  /-- A pulse of `rst` (70_reset_and_hazards.md R290, log 12). -/
  | reset
  deriving DecidableEq, Repr

/-- The complete state of one instance (10_state.md R33), then the model's two own fields. The flags and the phase
stand first. -/
structure State where
  /-- STATUS.BUSY (10_state.md R43). -/
  busy : Bool
  /-- The engine's phase (10_state.md R51). -/
  phase : Phase
  /-- STATUS.DONE (10_state.md R44). -/
  done : Bool
  /-- STATUS.ERR (10_state.md R45). -/
  err : Bool
  /-- STATUS.ERRCODE (10_state.md R45). -/
  errcode : BitVec 4
  /-- MVALID[15:0], one bit per MSG word (10_state.md R35). -/
  mvalid : BitVec 16
  /-- Q, the queue of pending blocks, the head first (10_state.md R51). -/
  q : List Block
  /-- FIN: the queued work came from a FINAL (10_state.md R51). -/
  fin : Bool
  /-- t, the round counter, 0 to 80 (10_state.md R51). -/
  t : Nat
  /-- j, the expansion index, 16 to 80 (10_state.md R51). -/
  j : Nat
  /-- IE[2:0]: DONE_IE bit 0, ERR_IE bit 1, IDLE_IE bit 2 (10_state.md R46). -/
  ie : BitVec 3
  /-- H[0..4], the persistent state (10_state.md R36). -/
  h : FiveWords
  /-- LEN[63:0], message bits accepted in the session (10_state.md R37). -/
  len : BitVec 64
  /-- MSG[0..15], the message block buffer (10_state.md R34). -/
  msg : Block
  /-- The working variables a, b, c, d, e (10_state.md R38). -/
  wv : FiveWords
  /-- W[0..79], the message schedule (10_state.md R39). -/
  w : Sched
  /-- MODEL'S OWN FIELD (log 3): the response of the last completed transaction. -/
  rsp : Option Response
  /-- MODEL'S OWN FIELD (log 1): the events still to come, oldest first. -/
  inputs : List Input
  deriving DecidableEq, Repr

/-- Why a step stops with a fault. The spec has none: "No event of the block transfers control anywhere"
(60_exceptions.md R260). -/
inductive Fault where
  /-- Raised by an engine step alone, in a state whose queue is non-empty while no step of 42_engine.md R182 to R185
  is enabled (phase IDLE, or t or j outside the range its step needs). No run from reset reaches one. Safe: the
  model stops where the spec gives no step (log 11). -/
  | engineInconsistent
  deriving DecidableEq, Repr

/-- Why a step refuses. -/
inductive Refusal where
  /-- Raised by an arm of exec whose instruction has no meaning yet; no arm of this model does. Safe: the model
  stops. -/
  | notModelled (mnemonic : String)
  deriving DecidableEq, Repr

/-- The state after reset, field by field as 70_reset_and_hazards.md R291 lists it. The fields `wv`, `w`, `t` and `j`
are unspecified there (R293): their values are the model's, DESIGN CHOICE, log 5. -/
def State.reset : State where
  h := iv
  len := 0#64
  msg := Vector.replicate 16 0#32
  mvalid := 0#16
  busy := false
  done := false
  err := false
  errcode := 0#4
  ie := 0#3
  wv := ⟨Config.resetWorkingWord, Config.resetWorkingWord, Config.resetWorkingWord,
    Config.resetWorkingWord, Config.resetWorkingWord⟩
  w := Vector.replicate 80 Config.resetScheduleWord
  q := []
  fin := false
  phase := .idle
  t := Config.resetRoundCounter
  j := Config.resetExpansionIndex
  rsp := none
  inputs := []

end Sys2Proof.Machine
end

