-- ==== Sys2Proof/Machine/Operands.lean ====
section
/-! DEFINITION. The operand forms: the chunk bytes FINAL takes from MSG (40_padding.md R139) and the MSG words a
command needs (43_commands.md R201, R207). The field operands of the encodings (OP, NBYTES, ADDR, DATA) are in
Decode.lean. -/

namespace Sys2Proof.Machine

/-- Chunk byte k: `MSG[k >> 2][31 - 8*(k mod 4) : 24 - 8*(k mod 4)]` (40_padding.md R139). -/
def chunkByte (msg : Block) (k : Nat) : Byte :=
  (msg[k / 4]?.getD 0#32).extractLsb' (24 - 8 * (k % 4)) 8

/-- The chunk C of FINAL n: bytes 0 to n - 1 of MSG; bytes at index n or above are ignored (40_padding.md R139). -/
def chunk (msg : Block) (n : Nat) : List Byte := (List.range n).map (chunkByte msg)

/-- The need mask of FINAL n: `(1 << ceil(n/4)) - 1` (43_commands.md R207). -/
def finalNeed (n : Nat) : BitVec 16 := BitVec.ofNat 16 (2 ^ ((n + 3) / 4) - 1)

/-- The need mask of BLOCK (43_commands.md R201). -/
def blockNeed : BitVec 16 := 0xFFFF#16

/-- Every needed MSG word has been written: `(MVALID AND need) = need` (43_commands.md R201). -/
def haveWords (mvalid need : BitVec 16) : Bool := mvalid &&& need == need

/-- The tail's blocks in processing order: one when n <= 55, else two (40_padding.md R137; 43_commands.md R206). -/
def tailBlocks (t : List Byte) (n : Nat) : List Block :=
  if n ≤ 55 then [blockAt t 0] else [blockAt t 0, blockAt t 1]

/-- LEN at which a further BLOCK would not fit: 2^64 - 512 (43_commands.md R205). -/
def lenLimit : BitVec 64 := 0xFFFFFFFFFFFFFE00#64

end Sys2Proof.Machine
end

