-- ==== Sys2Proof/Machine/Flags.lean ====
section
/-! DEFINITION. The flags of the block: the STATUS word and its fields, the error codes, MVALID and the interrupt
output (10_state.md R42 to R47, R52, R53; 60_exceptions.md R261, R268). There are no arithmetic condition codes
(10_state.md R53). -/

namespace Sys2Proof.Machine

/-- The errors that can be recorded (60_exceptions.md R261). -/
inductive ErrorCode where
  /-- A well-formed command other than NOP written while BUSY = 1. -/
  | cmdBusy
  /-- A write to MSG0..MSG15 while BUSY = 1. -/
  | msgBusy
  /-- A command word that is not well formed. -/
  | illegalCmd
  /-- BLOCK or FINAL with a needed MSG word not written. -/
  | incomplete
  /-- BLOCK or FINAL while DONE = 1. -/
  | sequence
  /-- BLOCK while LEN = 2^64 - 512. -/
  | lenOverflow
  deriving DecidableEq, Repr

/-- The number of an error in STATUS.ERRCODE (60_exceptions.md R261). -/
def errorNumber : ErrorCode → BitVec 4
  | .cmdBusy => 1#4
  | .msgBusy => 2#4
  | .illegalCmd => 3#4
  | .incomplete => 4#4
  | .sequence => 5#4
  | .lenOverflow => 6#4

/-- A flag as one bit. -/
def flagBit (b : Bool) : BitVec 1 := if b then 1#1 else 0#1

/-- `STATUS = zext_32(ERRCODE << 4 | ERR << 2 | DONE << 1 | BUSY)`: bits 31:8 and bit 3 read 0 (10_state.md R42). -/
def State.status (s : State) : Word :=
  (s.errcode ++ (0#1 ++ (flagBit s.err ++ (flagBit s.done ++ flagBit s.busy)))).setWidth 32

/-- The interrupt output: the OR of the enabled conditions, with no latch (10_state.md R52; 60_exceptions.md R268). -/
def State.irq (s : State) : Bool :=
  (s.ie.getLsbD 0 && s.done) || (s.ie.getLsbD 1 && s.err) || (s.ie.getLsbD 2 && !s.busy)

/-- MVALID with bit i set (10_state.md R35). -/
def setValid (mvalid : BitVec 16) (i : Nat) : BitVec 16 := mvalid ||| BitVec.twoPow 16 i

end Sys2Proof.Machine
end

