-- ==== Sys2Proof/Machine/Ops.lean ====
section
/-! DEFINITION. The shared operations over the registers: answering a transaction, recording an error and the way
back from it, reading and writing each kind of register, and accepting a command. The block has no memory besides
its registers (20_memory.md R70). -/

namespace Sys2Proof.Machine

/-- The outcome of one step of this machine. -/
abbrev Result := Host.Outcome State Fault Refusal

/-! ### Answering a transaction (20_memory.md R76) -/

/-- A read ends with data and a response and changes no other state (20_memory.md R79). -/
def answerRead (s : State) (data : Word) (resp : Resp) : Result := .next { s with rsp := some (.read data resp) }

/-- A write ends with a response. -/
def answerWrite (s : State) (resp : Resp) : Result := .next { s with rsp := some (.write resp) }

/-! ### Errors: entry (60_exceptions.md R262, R270) and return (R265, R271) -/

/-- `raise Error(code)`: the first error is kept; nothing else changes (60_exceptions.md R262). -/
def raiseError (code : ErrorCode) (s : State) : State :=
  if s.err then s else { s with err := true, errcode := errorNumber code }

/-- `Init()`: a new session; the only way short of reset to clear an error (43_commands.md R203; 60_exceptions.md
R265, R271). MSG, IE and the engine's internal state are unchanged. -/
def initSession (s : State) : State :=
  { s with h := iv, len := 0#64, mvalid := 0#16, done := false, err := false, errcode := 0#4 }

/-! ### Registers -/

/-- ID_VALUE (00_scope.md R8; 10_state.md R40). -/
def idValue : Word := 0x53484131#32

/-- LEN[31:0] (10_state.md R48). -/
def State.lenLo (s : State) : Word := s.len.extractLsb' 0 32

/-- LEN[63:32] (10_state.md R48). -/
def State.lenHi (s : State) : Word := s.len.extractLsb' 32 32

/-- What DIGESTi reads for the word H[i]: 0 unless DONE = 1 (10_state.md R50; 44_register_access.md R240). -/
def digestWord (s : State) (hi : Word) : Word := if s.done then hi else 0#32

/-- A write to MSGi: stored, and MVALID[i] set, while BUSY = 0; refused with MSG_BUSY while BUSY = 1
(44_register_access.md R244, R245). -/
def writeMsg (i : Fin 16) (data : Word) (s : State) : State :=
  if s.busy then raiseError .msgBusy s
  else { s with msg := s.msg.set i.val data i.isLt, mvalid := setValid s.mvalid i.val }

/-- A write to IE: DATA[2:0] is stored, DATA[31:3] ignored (44_register_access.md R243). -/
def writeIe (data : Word) (s : State) : State := { s with ie := data.extractLsb' 0 3 }

/-! ### Accepting a command -/

/-- `AcceptBlock()` (43_commands.md R204). -/
def acceptBlock (s : State) : State :=
  { s with
    q := [s.msg]
    fin := false
    len := s.len + 512#64
    mvalid := 0#16
    busy := true
    phase := .load }

/-- Lb = LEN + 8n, the length in bits that FINAL n writes into the tail (43_commands.md R206). -/
def finalLength (s : State) (n : Nat) : BitVec 64 := s.len + BitVec.ofNat 64 (8 * n)

/-- `AcceptFinal(n)` (43_commands.md R206). -/
def acceptFinal (n : Nat) (s : State) : State :=
  { s with
    q := tailBlocks (tail (chunk s.msg n) n (finalLength s n)) n
    fin := true
    len := finalLength s n
    mvalid := 0#16
    busy := true
    phase := .load }

/-- The checks a well-formed BLOCK or FINAL passes before it is accepted, in the order of 43_commands.md R201:
CMD_BUSY, the errored session (R209, ignored), SEQUENCE, INCOMPLETE and LEN_OVERFLOW (60_exceptions.md R267). -/
def checkedAccept (need : BitVec 16) (overflow : Bool) (accept : State → State) (s : State) : State :=
  if s.busy then raiseError .cmdBusy s
  else if s.err then s
  else if s.done then raiseError .sequence s
  else if !haveWords s.mvalid need then raiseError .incomplete s
  else if overflow then raiseError .lenOverflow s
  else accept s

/-- `CommandWrite(v)`: the checks in the order of 43_commands.md R201; "the first that applies decides the
outcome". -/
def commandWrite (v : Word) (s : State) : State :=
  let op := cmdOp v
  let n := (cmdNbytes v).toNat
  if !cmdWellFormed v then raiseError .illegalCmd s
  else if op == 0x00#8 then s
  else if s.busy then raiseError .cmdBusy s
  else if op == 0x01#8 then initSession s
  else if s.err then s
  else if s.done then raiseError .sequence s
  else if !haveWords s.mvalid (if op == 0x02#8 then blockNeed else finalNeed n) then raiseError .incomplete s
  else if op == 0x02#8 && s.len == lenLimit then raiseError .lenOverflow s
  else if op == 0x02#8 then acceptBlock s
  else acceptFinal n s

end Sys2Proof.Machine
end

