-- ==== Sys2Proof/Machine/Engine.lean ====
section
/-! DEFINITION. The engine's steps LOAD, EXPAND, ROUND and ACCUM with completion (42_engine.md R180 to R186). The
expansions all come before round 0, the reference order of R183 (log 7). -/

namespace Sys2Proof.Machine

/-- LOAD on the head block of Q (42_engine.md R182). -/
def engineLoad (b : Block) (s : State) : State :=
  { s with w := loadSchedule b s.w, wv := s.h, t := 0, j := 16, phase := .expand }

/-- EXPAND: W[j] is written and j advances (42_engine.md R183). -/
def engineExpand (s : State) : State :=
  { s with w := expandAt s.j s.w, j := s.j + 1, phase := if s.j + 1 = 80 then .round else .expand }

/-- ROUND t (42_engine.md R184). -/
def engineRound (s : State) : State :=
  { s with
    wv := round s.t s.wv (schedWord s.w s.t)
    t := s.t + 1
    phase := if s.t + 1 = 80 then .accum else .round }

/-- Completion: BUSY falls, and DONE rises after a FINAL with no error (42_engine.md R186). -/
def engineComplete (s : State) : State :=
  { s with phase := .idle, busy := false, done := s.done || (s.fin && !s.err), fin := false }

/-- ACCUM: the working variables are added into H and the finished block is popped, leaving `rest`; completion when
the queue is then empty (42_engine.md R185, R186). -/
def engineAccum (rest : List Block) (s : State) : State :=
  let s' := { s with h := accumulate s.h s.wv, q := rest }
  match rest with
  | [] => engineComplete s'
  | _ :: _ => { s' with phase := .load }

/-- One turn of the engine. A step "is enabled exactly when Q is non-empty" (42_engine.md R181): with an empty queue
the turn changes nothing (60_exceptions.md R280, log 2). -/
def engineStep (s : State) : Result :=
  match s.q with
  | [] => .next s
  | b :: rest =>
    match s.phase with
    | .idle => .fault .engineInconsistent
    | .load => .next (engineLoad b s)
    | .expand => if 16 ≤ s.j ∧ s.j ≤ 79 then .next (engineExpand s) else .fault .engineInconsistent
    | .round => if s.t ≤ 79 then .next (engineRound s) else .fault .engineInconsistent
    | .accum => .next (engineAccum rest s)

end Sys2Proof.Machine
end

