-- ==== Sys2Proof/Machine/Commands.lean ====
section
/-! DEFINITION. The meanings of the five command rows (43_commands.md). A command word is the data of a write to CMD,
which "always returns `resp OKAY`, accepted or refused" (43_commands.md R200, log 4). -/

namespace Sys2Proof.Machine

/-- NOP: no effect, in every state (43_commands.md R202). -/
def execNop (s : State) : Result := answerWrite s .okay

/-- INIT: a new session; CMD_BUSY while BUSY = 1 (43_commands.md R203). -/
def execInit (s : State) : Result :=
  answerWrite (if s.busy then raiseError .cmdBusy s else initSession s) .okay

/-- BLOCK: needs all sixteen MSG words and room in LEN (43_commands.md R204, R205). -/
def execBlock (s : State) : Result :=
  answerWrite (checkedAccept blockNeed (s.len == lenLimit) acceptBlock s) .okay

/-- FINAL n: needs the MSG words of its chunk; "FINAL needs no check" of LEN (43_commands.md R205 to R207). -/
def execFinal (n : BitVec 6) (s : State) : Result :=
  answerWrite (checkedAccept (finalNeed n.toNat) false (acceptFinal n.toNat) s) .okay

/-- CMD_ILLEGAL: records ILLEGAL_CMD, busy or not, and has no other effect, whatever the word (30_encoding.md R107;
43_commands.md R208). -/
def execCmdIllegal (_word : BitVec 32) (s : State) : Result := answerWrite (raiseError .illegalCmd s) .okay

end Sys2Proof.Machine
end

