-- ==== Sys2Proof/Machine/Reads.lean ====
section
/-! DEFINITION. The meanings of the BUS_READ rows (44_register_access.md R230, R232 to R241). No read changes any
state besides the response it gives (20_memory.md R79). -/

namespace Sys2Proof.Machine

/-- RD_ID (44_register_access.md R232). -/
def execRdId (s : State) : Result := answerRead s idValue .okay

/-- RD_CMD reads 0 (44_register_access.md R233). -/
def execRdCmd (s : State) : Result := answerRead s 0#32 .okay

/-- RD_STATUS (44_register_access.md R234). -/
def execRdStatus (s : State) : Result := answerRead s s.status .okay

/-- RD_IE: bits 31:3 read 0 (44_register_access.md R235). -/
def execRdIe (s : State) : Result := answerRead s (s.ie.setWidth 32) .okay

/-- RD_MVALID: bits 31:16 read 0 (44_register_access.md R236). -/
def execRdMvalid (s : State) : Result := answerRead s (s.mvalid.setWidth 32) .okay

/-- RD_LEN_LO (44_register_access.md R237). -/
def execRdLenLo (s : State) : Result := answerRead s s.lenLo .okay

/-- RD_LEN_HI (44_register_access.md R238). -/
def execRdLenHi (s : State) : Result := answerRead s s.lenHi .okay

/-- RD_MSG0 (44_register_access.md R239). -/
def execRdMsg0 (s : State) : Result := answerRead s s.msg[0] .okay

/-- RD_MSG1 (44_register_access.md R239). -/
def execRdMsg1 (s : State) : Result := answerRead s s.msg[1] .okay

/-- RD_MSG2 (44_register_access.md R239). -/
def execRdMsg2 (s : State) : Result := answerRead s s.msg[2] .okay

/-- RD_MSG3 (44_register_access.md R239). -/
def execRdMsg3 (s : State) : Result := answerRead s s.msg[3] .okay

/-- RD_MSG4 (44_register_access.md R239). -/
def execRdMsg4 (s : State) : Result := answerRead s s.msg[4] .okay

/-- RD_MSG5 (44_register_access.md R239). -/
def execRdMsg5 (s : State) : Result := answerRead s s.msg[5] .okay

/-- RD_MSG6 (44_register_access.md R239). -/
def execRdMsg6 (s : State) : Result := answerRead s s.msg[6] .okay

/-- RD_MSG7 (44_register_access.md R239). -/
def execRdMsg7 (s : State) : Result := answerRead s s.msg[7] .okay

/-- RD_MSG8 (44_register_access.md R239). -/
def execRdMsg8 (s : State) : Result := answerRead s s.msg[8] .okay

/-- RD_MSG9 (44_register_access.md R239). -/
def execRdMsg9 (s : State) : Result := answerRead s s.msg[9] .okay

/-- RD_MSG10 (44_register_access.md R239). -/
def execRdMsg10 (s : State) : Result := answerRead s s.msg[10] .okay

/-- RD_MSG11 (44_register_access.md R239). -/
def execRdMsg11 (s : State) : Result := answerRead s s.msg[11] .okay

/-- RD_MSG12 (44_register_access.md R239). -/
def execRdMsg12 (s : State) : Result := answerRead s s.msg[12] .okay

/-- RD_MSG13 (44_register_access.md R239). -/
def execRdMsg13 (s : State) : Result := answerRead s s.msg[13] .okay

/-- RD_MSG14 (44_register_access.md R239). -/
def execRdMsg14 (s : State) : Result := answerRead s s.msg[14] .okay

/-- RD_MSG15 (44_register_access.md R239). -/
def execRdMsg15 (s : State) : Result := answerRead s s.msg[15] .okay

/-- RD_DIGEST0: H[0] when DONE = 1, else 0 (44_register_access.md R240). -/
def execRdDigest0 (s : State) : Result := answerRead s (digestWord s s.h.a) .okay

/-- RD_DIGEST1: H[1] when DONE = 1, else 0 (44_register_access.md R240). -/
def execRdDigest1 (s : State) : Result := answerRead s (digestWord s s.h.b) .okay

/-- RD_DIGEST2: H[2] when DONE = 1, else 0 (44_register_access.md R240). -/
def execRdDigest2 (s : State) : Result := answerRead s (digestWord s s.h.c) .okay

/-- RD_DIGEST3: H[3] when DONE = 1, else 0 (44_register_access.md R240). -/
def execRdDigest3 (s : State) : Result := answerRead s (digestWord s s.h.d) .okay

/-- RD_DIGEST4: H[4] when DONE = 1, else 0 (44_register_access.md R240). -/
def execRdDigest4 (s : State) : Result := answerRead s (digestWord s s.h.e) .okay

/-- RD_UNMAPPED: data 0 and ERROR (44_register_access.md R241). -/
def execRdUnmapped (_addr : BitVec 8) (s : State) : Result := answerRead s 0#32 .error

end Sys2Proof.Machine
end

