-- ==== Sys2Proof/Machine/Writes.lean ====
section
/-! DEFINITION. The meanings of the BUS_WRITE rows (44_register_access.md R231, R242 to R247). -/

namespace Sys2Proof.Machine

/-- WR_CMD runs `CommandWrite(DATA)` and returns OKAY (44_register_access.md R242; 43_commands.md R200, R201). -/
def execWrCmd (data : Word) (s : State) : Result := answerWrite (commandWrite data s) .okay

/-- WR_IE, allowed in every state (44_register_access.md R243). -/
def execWrIe (data : Word) (s : State) : Result := answerWrite (writeIe data s) .okay

/-- WR_MSG0 (44_register_access.md R244, R245). -/
def execWrMsg0 (data : Word) (s : State) : Result := answerWrite (writeMsg 0 data s) .okay

/-- WR_MSG1 (44_register_access.md R244, R245). -/
def execWrMsg1 (data : Word) (s : State) : Result := answerWrite (writeMsg 1 data s) .okay

/-- WR_MSG2 (44_register_access.md R244, R245). -/
def execWrMsg2 (data : Word) (s : State) : Result := answerWrite (writeMsg 2 data s) .okay

/-- WR_MSG3 (44_register_access.md R244, R245). -/
def execWrMsg3 (data : Word) (s : State) : Result := answerWrite (writeMsg 3 data s) .okay

/-- WR_MSG4 (44_register_access.md R244, R245). -/
def execWrMsg4 (data : Word) (s : State) : Result := answerWrite (writeMsg 4 data s) .okay

/-- WR_MSG5 (44_register_access.md R244, R245). -/
def execWrMsg5 (data : Word) (s : State) : Result := answerWrite (writeMsg 5 data s) .okay

/-- WR_MSG6 (44_register_access.md R244, R245). -/
def execWrMsg6 (data : Word) (s : State) : Result := answerWrite (writeMsg 6 data s) .okay

/-- WR_MSG7 (44_register_access.md R244, R245). -/
def execWrMsg7 (data : Word) (s : State) : Result := answerWrite (writeMsg 7 data s) .okay

/-- WR_MSG8 (44_register_access.md R244, R245). -/
def execWrMsg8 (data : Word) (s : State) : Result := answerWrite (writeMsg 8 data s) .okay

/-- WR_MSG9 (44_register_access.md R244, R245). -/
def execWrMsg9 (data : Word) (s : State) : Result := answerWrite (writeMsg 9 data s) .okay

/-- WR_MSG10 (44_register_access.md R244, R245). -/
def execWrMsg10 (data : Word) (s : State) : Result := answerWrite (writeMsg 10 data s) .okay

/-- WR_MSG11 (44_register_access.md R244, R245). -/
def execWrMsg11 (data : Word) (s : State) : Result := answerWrite (writeMsg 11 data s) .okay

/-- WR_MSG12 (44_register_access.md R244, R245). -/
def execWrMsg12 (data : Word) (s : State) : Result := answerWrite (writeMsg 12 data s) .okay

/-- WR_MSG13 (44_register_access.md R244, R245). -/
def execWrMsg13 (data : Word) (s : State) : Result := answerWrite (writeMsg 13 data s) .okay

/-- WR_MSG14 (44_register_access.md R244, R245). -/
def execWrMsg14 (data : Word) (s : State) : Result := answerWrite (writeMsg 14 data s) .okay

/-- WR_MSG15 (44_register_access.md R244, R245). -/
def execWrMsg15 (data : Word) (s : State) : Result := answerWrite (writeMsg 15 data s) .okay

/-- WR_RO_ID: ERROR, no effect, nothing recorded (44_register_access.md R246; 60_exceptions.md R266). -/
def execWrRoId (_data : Word) (s : State) : Result := answerWrite s .error

/-- WR_RO_STATUS: ERROR, no effect, nothing recorded (44_register_access.md R246; 60_exceptions.md R266). -/
def execWrRoStatus (_data : Word) (s : State) : Result := answerWrite s .error

/-- WR_RO_MVALID: ERROR, no effect, nothing recorded (44_register_access.md R246; 60_exceptions.md R266). -/
def execWrRoMvalid (_data : Word) (s : State) : Result := answerWrite s .error

/-- WR_RO_LEN_LO: ERROR, no effect, nothing recorded (44_register_access.md R246; 60_exceptions.md R266). -/
def execWrRoLenLo (_data : Word) (s : State) : Result := answerWrite s .error

/-- WR_RO_LEN_HI: ERROR, no effect, nothing recorded (44_register_access.md R246; 60_exceptions.md R266). -/
def execWrRoLenHi (_data : Word) (s : State) : Result := answerWrite s .error

/-- WR_RO_DIGEST0: ERROR, no effect, nothing recorded (44_register_access.md R246; 60_exceptions.md R266). -/
def execWrRoDigest0 (_data : Word) (s : State) : Result := answerWrite s .error

/-- WR_RO_DIGEST1: ERROR, no effect, nothing recorded (44_register_access.md R246; 60_exceptions.md R266). -/
def execWrRoDigest1 (_data : Word) (s : State) : Result := answerWrite s .error

/-- WR_RO_DIGEST2: ERROR, no effect, nothing recorded (44_register_access.md R246; 60_exceptions.md R266). -/
def execWrRoDigest2 (_data : Word) (s : State) : Result := answerWrite s .error

/-- WR_RO_DIGEST3: ERROR, no effect, nothing recorded (44_register_access.md R246; 60_exceptions.md R266). -/
def execWrRoDigest3 (_data : Word) (s : State) : Result := answerWrite s .error

/-- WR_RO_DIGEST4: ERROR, no effect, nothing recorded (44_register_access.md R246; 60_exceptions.md R266). -/
def execWrRoDigest4 (_data : Word) (s : State) : Result := answerWrite s .error

/-- WR_UNMAPPED: ERROR, no effect (44_register_access.md R247). -/
def execWrUnmapped (_addr : BitVec 8) (_data : Word) (s : State) : Result := answerWrite s .error

end Sys2Proof.Machine
end

