-- ==== Sys2Proof/Machine/Dispatch.lean ====
section
/-! DEFINITION. The dispatch: one arm per constructor of Instr. -/

namespace Sys2Proof.Machine

def exec (i : Instr) (s : State) : Host.Outcome State Fault Refusal :=
  match i with
  | .nop => Sys2Proof.Machine.execNop s
  | .init => Sys2Proof.Machine.execInit s
  | .block => Sys2Proof.Machine.execBlock s
  | .final n => Sys2Proof.Machine.execFinal n s
  | .cmdIllegal word => Sys2Proof.Machine.execCmdIllegal word s
  | .rdId => Sys2Proof.Machine.execRdId s
  | .rdCmd => Sys2Proof.Machine.execRdCmd s
  | .rdStatus => Sys2Proof.Machine.execRdStatus s
  | .rdIe => Sys2Proof.Machine.execRdIe s
  | .rdMvalid => Sys2Proof.Machine.execRdMvalid s
  | .rdLenLo => Sys2Proof.Machine.execRdLenLo s
  | .rdLenHi => Sys2Proof.Machine.execRdLenHi s
  | .rdMsg0 => Sys2Proof.Machine.execRdMsg0 s
  | .rdMsg1 => Sys2Proof.Machine.execRdMsg1 s
  | .rdMsg2 => Sys2Proof.Machine.execRdMsg2 s
  | .rdMsg3 => Sys2Proof.Machine.execRdMsg3 s
  | .rdMsg4 => Sys2Proof.Machine.execRdMsg4 s
  | .rdMsg5 => Sys2Proof.Machine.execRdMsg5 s
  | .rdMsg6 => Sys2Proof.Machine.execRdMsg6 s
  | .rdMsg7 => Sys2Proof.Machine.execRdMsg7 s
  | .rdMsg8 => Sys2Proof.Machine.execRdMsg8 s
  | .rdMsg9 => Sys2Proof.Machine.execRdMsg9 s
  | .rdMsg10 => Sys2Proof.Machine.execRdMsg10 s
  | .rdMsg11 => Sys2Proof.Machine.execRdMsg11 s
  | .rdMsg12 => Sys2Proof.Machine.execRdMsg12 s
  | .rdMsg13 => Sys2Proof.Machine.execRdMsg13 s
  | .rdMsg14 => Sys2Proof.Machine.execRdMsg14 s
  | .rdMsg15 => Sys2Proof.Machine.execRdMsg15 s
  | .rdDigest0 => Sys2Proof.Machine.execRdDigest0 s
  | .rdDigest1 => Sys2Proof.Machine.execRdDigest1 s
  | .rdDigest2 => Sys2Proof.Machine.execRdDigest2 s
  | .rdDigest3 => Sys2Proof.Machine.execRdDigest3 s
  | .rdDigest4 => Sys2Proof.Machine.execRdDigest4 s
  | .wrCmd data => Sys2Proof.Machine.execWrCmd data s
  | .wrIe data => Sys2Proof.Machine.execWrIe data s
  | .wrMsg0 data => Sys2Proof.Machine.execWrMsg0 data s
  | .wrMsg1 data => Sys2Proof.Machine.execWrMsg1 data s
  | .wrMsg2 data => Sys2Proof.Machine.execWrMsg2 data s
  | .wrMsg3 data => Sys2Proof.Machine.execWrMsg3 data s
  | .wrMsg4 data => Sys2Proof.Machine.execWrMsg4 data s
  | .wrMsg5 data => Sys2Proof.Machine.execWrMsg5 data s
  | .wrMsg6 data => Sys2Proof.Machine.execWrMsg6 data s
  | .wrMsg7 data => Sys2Proof.Machine.execWrMsg7 data s
  | .wrMsg8 data => Sys2Proof.Machine.execWrMsg8 data s
  | .wrMsg9 data => Sys2Proof.Machine.execWrMsg9 data s
  | .wrMsg10 data => Sys2Proof.Machine.execWrMsg10 data s
  | .wrMsg11 data => Sys2Proof.Machine.execWrMsg11 data s
  | .wrMsg12 data => Sys2Proof.Machine.execWrMsg12 data s
  | .wrMsg13 data => Sys2Proof.Machine.execWrMsg13 data s
  | .wrMsg14 data => Sys2Proof.Machine.execWrMsg14 data s
  | .wrMsg15 data => Sys2Proof.Machine.execWrMsg15 data s
  | .wrRoId data => Sys2Proof.Machine.execWrRoId data s
  | .wrRoStatus data => Sys2Proof.Machine.execWrRoStatus data s
  | .wrRoMvalid data => Sys2Proof.Machine.execWrRoMvalid data s
  | .wrRoLenLo data => Sys2Proof.Machine.execWrRoLenLo data s
  | .wrRoLenHi data => Sys2Proof.Machine.execWrRoLenHi data s
  | .wrRoDigest0 data => Sys2Proof.Machine.execWrRoDigest0 data s
  | .wrRoDigest1 data => Sys2Proof.Machine.execWrRoDigest1 data s
  | .wrRoDigest2 data => Sys2Proof.Machine.execWrRoDigest2 data s
  | .wrRoDigest3 data => Sys2Proof.Machine.execWrRoDigest3 data s
  | .wrRoDigest4 data => Sys2Proof.Machine.execWrRoDigest4 data s
  | .rdUnmapped addr => Sys2Proof.Machine.execRdUnmapped addr s
  | .wrUnmapped addr data => Sys2Proof.Machine.execWrUnmapped addr data s

end Sys2Proof.Machine
end

