-- ==== Sys2Proof/Machine/Step.lean ====
section
/-! DEFINITION. One step of the machine: the oldest pending input acts, a transaction through the decoder and exec,
an engine turn through engineStep, a reset by State.reset; with no input pending the engine moves (20_memory.md R78,
R80; 42_engine.md R181, R190; 70_reset_and_hazards.md R290; log 1, 2, 12). -/

namespace Sys2Proof.Machine

/-- One step. -/
def step (s : State) : Host.Outcome State Fault Refusal :=
  match s.inputs with
  | [] => engineStep s
  | .request r :: rest => exec (decodeRequest r) { s with inputs := rest }
  | .engine :: rest => engineStep { s with inputs := rest }
  | .reset :: rest => .next { State.reset with inputs := rest }

/-- The transaction of a table word is placed before all other inputs, so that the next step runs it (log 8, 9). -/
def State.withFetchWord (s : State) (nbits w : Nat) : State :=
  match requestOfBytes (tableBytes nbits w) with
  | .ok r => { s with inputs := .request r :: s.inputs }
  | .error _ => s

end Sys2Proof.Machine
end

