-- ==== Sys2Proof/Machine/Platform.lean ====
section
/-! DEFINITION. A platform of N_INST instances, each with its own BASE, sharing no state (00_scope.md R9; 20_memory.md
R74; 60_exceptions.md R277; log 6). The block itself is Machine/Step.lean; this file only places blocks on a bus. -/

namespace Sys2Proof.Machine

/-- One instance on the platform's bus. -/
structure BlockInstance where
  /-- BASE divided by 256: BASE is "aligned to 256 bytes" (20_memory.md R74). -/
  window : Nat
  /-- The instance's own state (10_state.md R33). -/
  block : State
  deriving DecidableEq, Repr

/-- BASE (20_memory.md R74). -/
def baseAddress (window : Nat) : Nat := 256 * window

/-- The instance occupies the 256 bytes from BASE (20_memory.md R74). -/
def BlockInstance.claims (b : BlockInstance) (addr : Nat) : Bool :=
  baseAddress b.window ≤ addr && addr < baseAddress b.window + 256

/-- ADDR[7:0]: "its address minus BASE; only bits 7:0 of the offset reach the block" (20_memory.md R74). -/
def busOffset (window addr : Nat) : BitVec 8 := BitVec.ofNat 8 (addr - baseAddress window)

/-- A host transaction on the platform's bus. -/
inductive HostAccess where
  /-- A 32-bit read of an address. -/
  | read (addr : Nat)
  /-- A 32-bit write to an address. -/
  | write (addr : Nat) (data : Word)
  deriving DecidableEq, Repr

/-- The bus address of a transaction. -/
def HostAccess.addr : HostAccess → Nat
  | .read addr => addr
  | .write addr _ => addr

/-- The transaction as the instance's port sees it (30_encoding.md R101). -/
def HostAccess.request (a : HostAccess) (window : Nat) : Request :=
  match a with
  | .read addr => .bus (busReadWord (busOffset window addr))
  | .write addr data => .bus (busWriteWord (busOffset window addr) data)

/-- An instance takes a transaction of its window after those it already has (20_memory.md R80), and no other. -/
def BlockInstance.receive (a : HostAccess) (b : BlockInstance) : BlockInstance :=
  if b.claims a.addr then
    { b with block := { b.block with inputs := b.block.inputs ++ [.request (a.request b.window)] } }
  else b

/-- A transaction on the bus reaches the instance whose window holds its address. -/
def platformAccess (a : HostAccess) (p : List BlockInstance) : List BlockInstance := p.map (BlockInstance.receive a)

/-- Instance i steps; no other moves. -/
def platformStep (i : Nat) (p : List BlockInstance) : Host.Outcome (List BlockInstance) Fault Refusal :=
  match p[i]? with
  | none => .next p
  | some b =>
    match step b.block with
    | .next s => .next (p.set i { b with block := s })
    | .fault f => .fault f
    | .refused r => .refused r

/-- "Each starts at reset" (60_exceptions.md R277). -/
def platformReset (windows : List Nat) : List BlockInstance := windows.map (fun w => ⟨w, State.reset⟩)

end Sys2Proof.Machine
end

