-- ==== Sys2Proof/Safety.lean ====
section
/-! DEFINITION. The terms the statements use: the invariant of reachable states, runs of the engine, and the host's
canonical sequence. Nothing here adds to what the machine does. -/

namespace Sys2Proof.Machine

/-! ### Invariant -/

/-- What every reachable state satisfies (10_state.md R51, R55), with what R55 (3) needs to be kept by a step. -/
structure StateInv (s : State) : Prop where
  /-- Q has length 0, 1 or 2 (10_state.md R51). -/
  queue_length : s.q.length ≤ 2
  /-- `phase = IDLE` exactly when Q is empty (10_state.md R51). -/
  idle_iff_empty : s.phase = .idle ↔ s.q = []
  /-- `BUSY = 1` exactly when Q is non-empty (10_state.md R43, R51). -/
  busy_iff_queued : s.busy = true ↔ s.q ≠ []
  /-- FIN is cleared by completion (42_engine.md R186). -/
  fin_while_queued : s.q = [] → s.fin = false
  /-- DONE = 1 implies BUSY = 0 (10_state.md R55 (1)). -/
  done_not_busy : s.done = true → s.busy = false
  /-- ERR = 0 implies ERRCODE = 0 (10_state.md R55 (4)). -/
  no_error_code : s.err = false → s.errcode = 0#4
  /-- ERR = 1 implies ERRCODE is in 1..6 (10_state.md R55 (4)). -/
  error_code : s.err = true → 1 ≤ s.errcode.toNat ∧ s.errcode.toNat ≤ 6
  /-- BUSY = 1 implies MVALID = 0 (10_state.md R55 (5)). -/
  busy_mvalid : s.busy = true → s.mvalid = 0#16
  /-- LEN <= 2^64 - 8 always (10_state.md R55 (3)). -/
  len_max : s.len.toNat ≤ 2 ^ 64 - 8
  /-- In an open idle session LEN is a multiple of 512 and at most 2^64 - 512 (10_state.md R55 (3)). -/
  len_open : s.busy = false → s.done = false → s.err = false → s.len.toNat % 512 = 0 ∧ s.len.toNat ≤ 2 ^ 64 - 512
  /-- The same while a BLOCK runs, so that R55 (3) holds again at its completion. -/
  len_block : s.busy = true → s.fin = false → s.len.toNat % 512 = 0 ∧ s.len.toNat ≤ 2 ^ 64 - 512
  /-- t is 0 to 80 (10_state.md R51). -/
  round_counter : s.t ≤ 80
  /-- j is 16 to 80 (10_state.md R51). -/
  expansion_index : 16 ≤ s.j ∧ s.j ≤ 80
  /-- EXPAND is enabled while its phase lasts (42_engine.md R183). -/
  expand_enabled : s.phase = .expand → s.j ≤ 79
  /-- LOAD sets t to 0, and no EXPAND changes it (42_engine.md R182, R183). -/
  expand_before_rounds : s.phase = .expand → s.t = 0
  /-- ROUND is enabled while its phase lasts (42_engine.md R184). -/
  round_enabled : s.phase = .round → s.t ≤ 79

/-- The states of the runs from reset, whatever the host, the engine's turns and the resets (70_reset_and_hazards.md
R290, R291). -/
inductive Reachable : State → Prop where
  /-- The state after reset, with any events to come. -/
  | start (inputs : List Input) : Reachable { State.reset with inputs := inputs }
  /-- One step. -/
  | next {s t : State} (hs : Reachable s) (h : step s = .next t) : Reachable t

/-! ### Runs of the engine -/

/-- n engine turns with nothing between them. -/
def engineTurns : Nat → State → Result
  | 0, s => .next s
  | n + 1, s =>
    match engineStep s with
    | .next s' => engineTurns n s'
    | .fault f => .fault f
    | .refused r => .refused r

/-! ### Events and the canonical host sequence (43_commands.md R210) -/

/-- One event acts on the block before everything that is still to come. -/
def act (e : Input) (s : State) : Result := step { s with inputs := e :: s.inputs }

/-- The host sends one transaction; the engine may have turns before it, and no other transaction comes between. -/
inductive Sends (i : Instr) : State → State → Prop where
  /-- The transaction acts. -/
  | now {s t : State} (h : act (.request (encode i)) s = .next t) : Sends i s t
  /-- The engine has a turn first. -/
  | engine {s u t : State} (h : act .engine s = .next u) (k : Sends i u t) : Sends i s t

/-- The host sends transactions one after the other. -/
def SendsAll : List Instr → State → State → Prop
  | [], s, t => s = t
  | i :: rest, s, t => ∃ u, Sends i s u ∧ SendsAll rest u t

/-- `wait`: the host repeats `rd STATUS` "until bit 0 (BUSY) reads 0" (30_encoding.md R113). -/
inductive WaitsIdle : State → State → Prop where
  /-- The poll that reads BUSY = 0 ends the wait. -/
  | last {s t : State} {data : Word} (h : Sends .rdStatus s t) (hr : t.rsp = some (.read data .okay))
      (hb : data.getLsbD 0 = false) : WaitsIdle s t
  /-- A poll that reads BUSY = 1 is followed by another. -/
  | again {s t u : State} {data : Word} (h : Sends .rdStatus s t) (hr : t.rsp = some (.read data .okay))
      (hb : data.getLsbD 0 = true) (k : WaitsIdle t u) : WaitsIdle s u

/-- `wr MSGi, w` for a word index (30_encoding.md R106, R112); from index 15 on, MSG15. -/
def wrMsgAt (i : Nat) (w : Word) : Instr :=
  match i with
  | 0 => .wrMsg0 w
  | 1 => .wrMsg1 w
  | 2 => .wrMsg2 w
  | 3 => .wrMsg3 w
  | 4 => .wrMsg4 w
  | 5 => .wrMsg5 w
  | 6 => .wrMsg6 w
  | 7 => .wrMsg7 w
  | 8 => .wrMsg8 w
  | 9 => .wrMsg9 w
  | 10 => .wrMsg10 w
  | 11 => .wrMsg11 w
  | 12 => .wrMsg12 w
  | 13 => .wrMsg13 w
  | 14 => .wrMsg14 w
  | _ => .wrMsg15 w

/-- `ldmsg S`: `wr MSGi, be32(S, 4i)` for i = 0 to ceil(len(S)/4) - 1, S padded with zero bytes (30_encoding.md R113). -/
def ldmsg (bytes : List Byte) : List Instr :=
  (List.range ((bytes.length + 3) / 4)).map (fun i => wrMsgAt i (be32 bytes (4 * i)))

/-- `init` (30_encoding.md R113). -/
def initWrite : Instr := .wrCmd 0x00000001#32

/-- `block` (30_encoding.md R113). -/
def blockWrite : Instr := .wrCmd 0x00000002#32

/-- `final n`: `wr CMD, 0x00000003 OR (n << 8)` (30_encoding.md R113). -/
def finalWrite (n : Nat) : Instr := .wrCmd (0x00000003#32 ||| (BitVec.ofNat 32 n <<< 8))

/-- The full 64-byte blocks of a message, M[64k .. 64k+63] for k in 0..q-1 (43_commands.md R210). -/
def fullBlocks (m : List Byte) : List (List Byte) :=
  (List.range (m.length / 64)).map (fun k => (m.drop (64 * k)).take 64)

/-- The last n bytes, M[64q .. L-1] (43_commands.md R210). -/
def lastChunk (m : List Byte) : List Byte := m.drop (64 * (m.length / 64))

/-- `ldmsg` of each block, `block`, `wait`, in order (43_commands.md R210). -/
def SendsBlocks : List (List Byte) → State → State → Prop
  | [], s, t => s = t
  | c :: rest, s, t =>
    ∃ u v w, SendsAll (ldmsg c) s u ∧ Sends blockWrite u v ∧ WaitsIdle v w ∧ SendsBlocks rest w t

/-- A read that answers a word with OKAY. -/
def ReadsWord (i : Instr) (d : Word) (s t : State) : Prop := Sends i s t ∧ t.rsp = some (.read d .okay)

/-- The canonical host sequence for M (43_commands.md R210), from s to t, its five DIGEST reads giving d. -/
def CanonicalRun (m : List Byte) (s t : State) (d : FiveWords) : Prop :=
  ∃ s0 s1 s2 s3 s4 s5 r0 r1 r2 r3,
    WaitsIdle s s0 ∧ Sends initWrite s0 s1 ∧ SendsBlocks (fullBlocks m) s1 s2 ∧
    SendsAll (ldmsg (lastChunk m)) s2 s3 ∧ Sends (finalWrite (m.length % 64)) s3 s4 ∧ WaitsIdle s4 s5 ∧
    ReadsWord .rdDigest0 d.a s5 r0 ∧ ReadsWord .rdDigest1 d.b r0 r1 ∧ ReadsWord .rdDigest2 d.c r1 r2 ∧
    ReadsWord .rdDigest3 d.d r2 r3 ∧ ReadsWord .rdDigest4 d.e r3 t

end Sys2Proof.Machine
end

