-- ==== Sys2Proof/Certificates/Slice0/Obligations.lean ====
section
/-! DEFINITION. The statements for the provers, from the numbered rules of spec/. A statement that gives the next
state as one record says its frame too: every field it does not name is unchanged. -/

open Sys2Proof Sys2Proof.Machine

/-! ### Encoding -/

/-- Words written out from the encodings of 30_encoding.md R101 to R103 and R106, one or more of each family, and what
they stand for; their byte layout is the model's choice (log 8). -/
def Obligations.EncodedWordsReadAsTheirInstruction : Prop :=
  decodeTableWord 32 0x00000000 = some .nop ∧
  decodeTableWord 32 0x00000001 = some .init ∧
  decodeTableWord 32 0x00000002 = some .block ∧
  decodeTableWord 32 0x00003F03 = some (.final 63#6) ∧
  decodeTableWord 32 0x00004003 = some (.cmdIllegal 0x00004003#32) ∧
  decodeTableWord 41 0x00800000000 = some .rdStatus ∧
  decodeTableWord 41 0x05C00000000 = some .rdMsg15 ∧
  decodeTableWord 41 0x07000000000 = some .rdDigest4 ∧
  decodeTableWord 41 0x10400000303 = some (.wrCmd 0x00000303#32) ∧
  decodeTableWord 41 0x12061626300 = some (.wrMsg0 0x61626300#32) ∧
  decodeTableWord 41 0x10800000004 = some (.wrRoStatus 0x00000004#32) ∧
  decodeTableWord 41 0x01C00000000 = some (.rdUnmapped 0x1C#8) ∧
  decodeTableWord 41 0x12212345678 = some (.wrUnmapped 0x22#8 0x12345678#32)

/-- Every well-formed instruction is read back from its own bytes, with every operand at every value (30_encoding.md
R101 to R107; the byte layout is the model's choice, log 8). -/
def Obligations.DecodeOfEncodeIsTheInstruction : Prop :=
  ∀ i : Instr, i.wellFormed = true → decode (encodeBytes i) = .instr i

/-- Both decoders give, for every word, the first row of spec/opcode_table.json whose match and mask the word meets
(30_encoding.md R103, R106, R110). -/
def Obligations.DecodersFollowTheOpcodeTable : Prop :=
  (∀ v : BitVec 32, firstRow cmdRows v.toNat = some (decodeCmd v).mnemonic) ∧
  (∀ w : BitVec 41, firstRow busRows w.toNat = some (decodeBus w).mnemonic)

/-- Every transaction reads as a well-formed instruction and is encoded back as itself, but for the DATA of a read,
which is ignored and written as 0 (30_encoding.md R101, R110). -/
def Obligations.EveryTransactionReadsAsOneInstruction : Prop :=
  (∀ r : Request, (decodeRequest r).wellFormed = true) ∧
  (∀ v : BitVec 32, encode (decodeCmd v) = .cmd v) ∧
  (∀ w : BitVec 41, busWr w = true → encode (decodeBus w) = .bus w) ∧
  (∀ w : BitVec 41, busWr w = false → encode (decodeBus w) = .bus (busReadWord (busAddr w)))

/-- A command word is well formed when its three conditions hold, and exactly then it is one of NOP, INIT, BLOCK and
FINAL n with n = CMD[13:8]; else it is illegal (30_encoding.md R107, R103, R104). -/
def Obligations.CommandWordIsWellFormedOrIllegal : Prop :=
  ∀ v : BitVec 32,
    ((v.toNat % 2 ^ 8 ≤ 3 ∧ v.toNat / 2 ^ 14 = 0 ∧ (v.toNat / 2 ^ 8 % 2 ^ 6 = 0 ∨ v.toNat % 2 ^ 8 = 3)) ∧
        ((v = 0x00000000#32 ∧ decodeCmd v = .nop) ∨ (v = 0x00000001#32 ∧ decodeCmd v = .init) ∨
          (v = 0x00000002#32 ∧ decodeCmd v = .block) ∨
          ∃ n : BitVec 6, v.toNat = 3 + 2 ^ 8 * n.toNat ∧ decodeCmd v = .final n)) ∨
      (¬(v.toNat % 2 ^ 8 ≤ 3 ∧ v.toNat / 2 ^ 14 = 0 ∧ (v.toNat / 2 ^ 8 % 2 ^ 6 = 0 ∨ v.toNat % 2 ^ 8 = 3)) ∧
        decodeCmd v = .cmdIllegal v)

/-! ### Steps -/

/-- A step runs the transaction that is first in line, as the decoder reads it; a well-formed instruction is what its own
encoding runs, and so is a fetched table word. An engine turn, a reset pulse and an empty line step as named (the
line of events is the model's own form, log 1, 8, 9, 12). -/
def Obligations.StepRunsTheDecodedInstruction : Prop :=
  (∀ s i rest, Instr.wellFormed i = true → s.inputs = .request (encode i) :: rest →
    step s = exec i { s with inputs := rest }) ∧
  (∀ s r rest, s.inputs = .request r :: rest → step s = exec (decodeRequest r) { s with inputs := rest }) ∧
  (∀ s nbits word i, decodeTableWord nbits word = some i → step (s.withFetchWord nbits word) = exec i s) ∧
  (∀ s rest, s.inputs = .engine :: rest → step s = engineStep { s with inputs := rest }) ∧
  (∀ s, s.inputs = [] → step s = engineStep s)

/-- From a state that meets the invariant, every instruction and every step has a next state: no error stops the
block (60_exceptions.md R260). -/
def Obligations.NothingStopsTheBlock : Prop :=
  (∀ i s, ∃ t, exec i s = .next t) ∧ (∀ s, StateInv s → ∃ t, step s = .next t)

/-! ### Reads -/

/-- RD_ID answers the identity and RD_CMD answers 0, in every state (44_register_access.md R232, R233). -/
def Obligations.RdIdAndRdCmdAnswerConstants : Prop :=
  ∀ s : State,
    exec .rdId s = .next { s with rsp := some (.read 0x53484131#32 .okay) } ∧
    exec .rdCmd s = .next { s with rsp := some (.read 0x00000000#32 .okay) }

/-- RD_STATUS answers `zext_32(ERRCODE << 4 | ERR << 2 | DONE << 1 | BUSY)` (44_register_access.md R234; 10_state.md
R42). -/
def Obligations.RdStatusAnswersTheFlags : Prop :=
  ∀ s : State, exec .rdStatus s =
    .next { s with rsp := some (.read
      ((s.errcode.setWidth 32 <<< 4) ||| ((BitVec.ofBool s.err).setWidth 32 <<< 2) |||
        ((BitVec.ofBool s.done).setWidth 32 <<< 1) ||| (BitVec.ofBool s.busy).setWidth 32) .okay) }

/-- RD_IE, RD_MVALID, RD_LEN_LO and RD_LEN_HI answer their registers, zero above the field (44_register_access.md R235
to R238). -/
def Obligations.RdIeMvalidAndLenAnswerTheirRegister : Prop :=
  ∀ s : State,
    exec .rdIe s = .next { s with rsp := some (.read (BitVec.ofNat 32 s.ie.toNat) .okay) } ∧
    exec .rdMvalid s = .next { s with rsp := some (.read (BitVec.ofNat 32 s.mvalid.toNat) .okay) } ∧
    exec .rdLenLo s = .next { s with rsp := some (.read (BitVec.ofNat 32 (s.len.toNat % 2 ^ 32)) .okay) } ∧
    exec .rdLenHi s = .next { s with rsp := some (.read (BitVec.ofNat 32 (s.len.toNat / 2 ^ 32)) .okay) }

/-- RD_MSG0 to RD_MSG15 answer MSG[i] in every state, busy or not (44_register_access.md R239). -/
def Obligations.RdMsgAnswersTheBufferedWord : Prop :=
  ∀ s : State,
    exec .rdMsg0 s = .next { s with rsp := some (.read s.msg[0] .okay) } ∧
    exec .rdMsg1 s = .next { s with rsp := some (.read s.msg[1] .okay) } ∧
    exec .rdMsg2 s = .next { s with rsp := some (.read s.msg[2] .okay) } ∧
    exec .rdMsg3 s = .next { s with rsp := some (.read s.msg[3] .okay) } ∧
    exec .rdMsg4 s = .next { s with rsp := some (.read s.msg[4] .okay) } ∧
    exec .rdMsg5 s = .next { s with rsp := some (.read s.msg[5] .okay) } ∧
    exec .rdMsg6 s = .next { s with rsp := some (.read s.msg[6] .okay) } ∧
    exec .rdMsg7 s = .next { s with rsp := some (.read s.msg[7] .okay) } ∧
    exec .rdMsg8 s = .next { s with rsp := some (.read s.msg[8] .okay) } ∧
    exec .rdMsg9 s = .next { s with rsp := some (.read s.msg[9] .okay) } ∧
    exec .rdMsg10 s = .next { s with rsp := some (.read s.msg[10] .okay) } ∧
    exec .rdMsg11 s = .next { s with rsp := some (.read s.msg[11] .okay) } ∧
    exec .rdMsg12 s = .next { s with rsp := some (.read s.msg[12] .okay) } ∧
    exec .rdMsg13 s = .next { s with rsp := some (.read s.msg[13] .okay) } ∧
    exec .rdMsg14 s = .next { s with rsp := some (.read s.msg[14] .okay) } ∧
    exec .rdMsg15 s = .next { s with rsp := some (.read s.msg[15] .okay) }

/-- RD_DIGEST0 to RD_DIGEST4 answer H[i] when DONE = 1, else 0 (44_register_access.md R240). -/
def Obligations.RdDigestAnswersOnlyWhenDone : Prop :=
  ∀ s : State,
    exec .rdDigest0 s = .next { s with rsp := some (.read (if s.done then s.h.a else 0#32) .okay) } ∧
    exec .rdDigest1 s = .next { s with rsp := some (.read (if s.done then s.h.b else 0#32) .okay) } ∧
    exec .rdDigest2 s = .next { s with rsp := some (.read (if s.done then s.h.c else 0#32) .okay) } ∧
    exec .rdDigest3 s = .next { s with rsp := some (.read (if s.done then s.h.d else 0#32) .okay) } ∧
    exec .rdDigest4 s = .next { s with rsp := some (.read (if s.done then s.h.e else 0#32) .okay) }

/-! ### Writes -/

/-- WR_IE stores DATA[2:0] in every state, and irq follows at once (44_register_access.md R243; 10_state.md R52). -/
def Obligations.WrIeStoresEnablesAndIrqFollows : Prop :=
  ∀ (data : Word) (s : State), ∃ t,
    exec (.wrIe data) s = .next t ∧
    t = { s with ie := BitVec.ofNat 3 (data.toNat % 8), rsp := some (.write .okay) } ∧
    t.irq = ((data.getLsbD 0 && s.done) || (data.getLsbD 1 && s.err) || (data.getLsbD 2 && !s.busy))

/-- WR_MSG0 to WR_MSG15 while BUSY = 0: MSG[i] holds the word and MVALID[i] is 1 (44_register_access.md R244). -/
def Obligations.WrMsgStoresTheWordWhenIdle : Prop :=
  ∀ (i : Fin 16) (data : Word) (s : State), s.busy = false →
    exec (wrMsgAt i.val data) s =
      .next { s with
        msg := s.msg.set i.val data i.isLt
        mvalid := s.mvalid ||| (1#16 <<< i.val)
        rsp := some (.write .okay) }

/-- WR_MSG0 to WR_MSG15 while BUSY = 1: MSG_BUSY is recorded when no error was, and nothing else changes
(44_register_access.md R245; 60_exceptions.md R262). -/
def Obligations.WrMsgIsRefusedWhenBusy : Prop :=
  ∀ (i : Fin 16) (data : Word) (s : State), s.busy = true →
    exec (wrMsgAt i.val data) s =
      .next { s with
        err := true
        errcode := if s.err then s.errcode else 2#4
        rsp := some (.write .okay) }

/-- A write to a read-only register answers ERROR and changes nothing, STATUS included (44_register_access.md R246). -/
def Obligations.WrReadOnlyAnswersError : Prop :=
  ∀ (data : Word) (s : State) (i : Instr),
    i ∈ [.wrRoId data, .wrRoStatus data, .wrRoMvalid data, .wrRoLenLo data, .wrRoLenHi data, .wrRoDigest0 data,
      .wrRoDigest1 data, .wrRoDigest2 data, .wrRoDigest3 data, .wrRoDigest4 data] →
      exec i s = .next { s with rsp := some (.write .error) }

/-- A read of a misaligned or reserved offset answers data 0 with ERROR, a write there answers ERROR; neither changes
anything, and the DATA bits of a read do not matter (44_register_access.md R241, R247). -/
def Obligations.UnmappedAccessAnswersError : Prop :=
  ∀ (addr : BitVec 8) (data : Word) (s : State),
    (addr.toNat % 4 ≠ 0 ∨ addr = 0x1C#8 ∨ 0x74 ≤ addr.toNat) →
      decodeBus (0#1 ++ addr ++ data) = .rdUnmapped addr ∧
      exec (.rdUnmapped addr) s = .next { s with rsp := some (.read 0#32 .error) } ∧
      decodeBus (1#1 ++ addr ++ data) = .wrUnmapped addr data ∧
      exec (.wrUnmapped addr data) s = .next { s with rsp := some (.write .error) }

/-- WR_CMD does what the command its data encodes does: `CommandWrite`, written as the rule's list of checks, is the
command decoder followed by the command's meaning (44_register_access.md R242; 43_commands.md R200, R201). -/
def Obligations.WrCmdDoesWhatItsCommandDoes : Prop :=
  ∀ (v : Word) (s : State), exec (.wrCmd v) s = exec (decodeCmd v) s

/-- WR_CMD completes with OKAY, accepted or refused, whatever the word and the state; it leaves MSG, IE, W, the working
variables, t and j alone (43_commands.md R200). -/
def Obligations.WrCmdAlwaysAnswersOkay : Prop :=
  ∀ (v : Word) (s : State), ∃ t,
    exec (.wrCmd v) s = .next t ∧ t.rsp = some (.write .okay) ∧
    t.msg = s.msg ∧ t.ie = s.ie ∧ t.w = s.w ∧ t.wv = s.wv ∧ t.t = s.t ∧ t.j = s.j ∧ t.inputs = s.inputs

/-! ### Commands -/

/-- NOP has no effect in any state, as a command and as the write that delivers it (43_commands.md R202). -/
def Obligations.NopHasNoEffect : Prop :=
  ∀ s : State,
    exec .nop s = .next { s with rsp := some (.write .okay) } ∧
    exec (.wrCmd 0x00000000#32) s = .next { s with rsp := some (.write .okay) }

/-- INIT while BUSY = 0 starts a new session, in error or done or not (43_commands.md R203; 41_compression.md R150). -/
def Obligations.InitStartsASession : Prop :=
  ∀ s : State, s.busy = false →
    exec .init s =
      .next { s with
        h := ⟨0x67452301#32, 0xEFCDAB89#32, 0x98BADCFE#32, 0x10325476#32, 0xC3D2E1F0#32⟩
        len := 0#64
        mvalid := 0#16
        done := false
        err := false
        errcode := 0#4
        rsp := some (.write .okay) }

/-- BLOCK with all sixteen words written, in an open idle session with room in LEN, queues a copy of MSG
(43_commands.md R204). -/
def Obligations.BlockQueuesTheBuffer : Prop :=
  ∀ s : State, s.busy = false → s.err = false → s.done = false → s.mvalid = 0xFFFF#16 →
    s.len ≠ 0xFFFFFFFFFFFFFE00#64 →
      exec .block s =
        .next { s with
          q := [s.msg]
          fin := false
          len := s.len + 512#64
          mvalid := 0#16
          busy := true
          phase := .load
          rsp := some (.write .okay) }

/-- FINAL n in an open idle session, the words of its chunk written: the queued blocks, as bytes, are the chunk, the
0x80 marker, zeros and the big-endian bit length, 64 bytes when n <= 55, else 128 (43_commands.md R206; 40_padding.md
R136, R137, R139). -/
def Obligations.FinalQueuesThePaddedTail : Prop :=
  ∀ (n : BitVec 6) (s : State), s.busy = false → s.err = false → s.done = false →
    (∀ i, 4 * i < n.toNat → s.mvalid.getLsbD i = true) →
      ∃ blocks : List Block,
        exec (.final n) s =
          .next { s with
            q := blocks
            fin := true
            len := s.len + BitVec.ofNat 64 (8 * n.toNat)
            mvalid := 0#16
            busy := true
            phase := .load
            rsp := some (.write .okay) } ∧
        blocks.length = (if n.toNat ≤ 55 then 1 else 2) ∧
        blocks.flatMap blockBytes =
          (blockBytes s.msg).take n.toNat ++ [0x80#8] ++
            List.replicate ((if n.toNat ≤ 55 then 64 else 128) - n.toNat - 9) 0x00#8 ++
            ser64 (s.len + BitVec.ofNat 64 (8 * n.toNat))

/-- CMD_ILLEGAL, and the write that delivers an illegal word, record ILLEGAL_CMD when no error was and change nothing
else, busy or not (43_commands.md R208; 30_encoding.md R107). -/
def Obligations.IllegalWordRecordsIllegalCmd : Prop :=
  ∀ (v : Word) (s : State),
    ¬(v.toNat % 2 ^ 8 ≤ 3 ∧ v.toNat / 2 ^ 14 = 0 ∧ (v.toNat / 2 ^ 8 % 2 ^ 6 = 0 ∨ v.toNat % 2 ^ 8 = 3)) →
      exec (.cmdIllegal v) s =
          .next { s with
            err := true
            errcode := if s.err then s.errcode else 3#4
            rsp := some (.write .okay) } ∧
      exec (.wrCmd v) s = exec (.cmdIllegal v) s

/-- INIT, BLOCK and FINAL while BUSY = 1 record CMD_BUSY when no error was and do nothing else: INIT does not abort
(43_commands.md R201, R203; 70_reset_and_hazards.md R297). -/
def Obligations.CommandWhileBusyRecordsCmdBusy : Prop :=
  ∀ (n : BitVec 6) (s : State) (i : Instr), s.busy = true → i ∈ [.init, .block, .final n] →
    exec i s =
      .next { s with
        err := true
        errcode := if s.err then s.errcode else 1#4
        rsp := some (.write .okay) }

/-- BLOCK and FINAL in an errored idle session are ignored: they change nothing and record nothing (43_commands.md
R209). -/
def Obligations.ErroredSessionIgnoresBlockAndFinal : Prop :=
  ∀ (n : BitVec 6) (s : State) (i : Instr), s.busy = false → s.err = true → i ∈ [.block, .final n] →
    exec i s = .next { s with rsp := some (.write .okay) }

/-- The refusals of BLOCK and FINAL in an idle session without error, in the order of the checks: SEQUENCE before
INCOMPLETE before LEN_OVERFLOW, the code recorded and nothing else changed (43_commands.md R201, R205, R207;
60_exceptions.md R261, R267). -/
def Obligations.RefusedCommandRecordsTheFirstError : Prop :=
  ∀ (n : BitVec 6) (s : State), s.busy = false → s.err = false →
    (s.done = true → ∀ i ∈ [Instr.block, Instr.final n],
      exec i s = .next { s with err := true, errcode := 5#4, rsp := some (.write .okay) }) ∧
    (s.done = false → s.mvalid ≠ 0xFFFF#16 →
      exec .block s = .next { s with err := true, errcode := 4#4, rsp := some (.write .okay) }) ∧
    (s.done = false → (∃ i, 4 * i < n.toNat ∧ s.mvalid.getLsbD i = false) →
      exec (.final n) s = .next { s with err := true, errcode := 4#4, rsp := some (.write .okay) }) ∧
    (s.done = false → s.mvalid = 0xFFFF#16 → s.len = 0xFFFFFFFFFFFFFE00#64 →
      exec .block s = .next { s with err := true, errcode := 6#4, rsp := some (.write .okay) })

/-- FINAL needs no length check: from LEN <= 2^64 - 512 the sum LEN + 8n does not wrap and is at most 2^64 - 8; and LEN
mod 512 = 0 with LEN + 512 past the field is LEN = 2^64 - 512 (43_commands.md R205). -/
def Obligations.LengthCheckIsExact : Prop :=
  (∀ (s : State) (n : Nat), s.len.toNat ≤ 2 ^ 64 - 512 → n ≤ 63 →
    (finalLength s n).toNat = s.len.toNat + 8 * n ∧ s.len.toNat + 8 * n ≤ 2 ^ 64 - 8) ∧
  (∀ len : BitVec 64, len.toNat % 512 = 0 → (len = lenLimit ↔ len.toNat + 512 > 2 ^ 64 - 1))

/-! ### Errors, flags and the interrupt -/

/-- Recording an error: ERR and the error's number when ERR = 0, nothing when ERR = 1, so the first is kept; BUSY, DONE and
everything else stay (60_exceptions.md R262, R261). -/
def Obligations.FirstErrorIsKept : Prop :=
  (∀ (code : ErrorCode) (s : State),
    (s.err = false → raiseError code s = { s with err := true, errcode := errorNumber code }) ∧
    (s.err = true → raiseError code s = s)) ∧
  errorNumber .cmdBusy = 1#4 ∧ errorNumber .msgBusy = 2#4 ∧ errorNumber .illegalCmd = 3#4 ∧
  errorNumber .incomplete = 4#4 ∧ errorNumber .sequence = 5#4 ∧ errorNumber .lenOverflow = 6#4

/-- ERR and ERRCODE are cleared, or changed once set, only by an accepted INIT and by reset (60_exceptions.md R265). -/
def Obligations.OnlyInitAndResetClearErrors : Prop :=
  ∀ s t : State, step s = .next t → s.err = true →
    (t.err = true ∧ t.errcode = s.errcode) ∨
    (∃ rest, s.inputs = .reset :: rest) ∨
    (s.busy = false ∧ ∃ r rest, s.inputs = .request r :: rest ∧
      (decodeRequest r = .init ∨ decodeRequest r = .wrCmd 0x00000001#32))

/-- DONE rises only in the engine step that finishes the last block of a FINAL with ERR = 0, and falls only by an
accepted INIT and by reset (10_state.md R44, R53). -/
def Obligations.OnlyFinalCompletionSetsDone : Prop :=
  ∀ s t : State, step s = .next t →
    (s.done = false → t.done = true →
      s.fin = true ∧ s.err = false ∧ s.phase = .accum ∧ s.q.length = 1 ∧ t.q = [] ∧
        (s.inputs = [] ∨ ∃ rest, s.inputs = .engine :: rest)) ∧
    (s.done = true → t.done = false →
      (∃ rest, s.inputs = .reset :: rest) ∨
      (s.busy = false ∧ ∃ r rest, s.inputs = .request r :: rest ∧
        (decodeRequest r = .init ∨ decodeRequest r = .wrCmd 0x00000001#32)))

/-- BUSY rises only in a transaction that accepts a BLOCK or a FINAL, which clears MVALID and queues work, and falls only
in the ACCUM step that empties Q and by reset (10_state.md R43; 70_reset_and_hazards.md R304, R307). -/
def Obligations.BusyFollowsAcceptanceAndCompletion : Prop :=
  ∀ s t : State, step s = .next t →
    (s.busy = false → t.busy = true →
      t.q ≠ [] ∧ t.mvalid = 0#16 ∧ s.err = false ∧ s.done = false ∧
      ∃ r rest, s.inputs = .request r :: rest ∧
        (decodeRequest r = .block ∨ (∃ n, decodeRequest r = .final n) ∨
          ∃ v, decodeRequest r = .wrCmd v ∧ (decodeCmd v = .block ∨ ∃ n, decodeCmd v = .final n))) ∧
    (s.busy = true → t.busy = false →
      (∃ rest, s.inputs = .reset :: rest) ∨ (s.phase = .accum ∧ s.q.length = 1 ∧ t.q = [] ∧ t.phase = .idle))

/-- H is written only by INIT, by reset and by the engine's accumulation (10_state.md R36). -/
def Obligations.OnlyInitResetAndAccumulationWriteH : Prop :=
  ∀ s t : State, step s = .next t → t.h ≠ s.h →
    (∃ rest, s.inputs = .reset :: rest) ∨
    (t.h = iv ∧ s.busy = false ∧ ∃ r rest, s.inputs = .request r :: rest ∧
      (decodeRequest r = .init ∨ decodeRequest r = .wrCmd 0x00000001#32)) ∨
    (t.h = accumulate s.h s.wv ∧ s.phase = .accum ∧ s.q ≠ [] ∧ (s.inputs = [] ∨ ∃ rest, s.inputs = .engine :: rest))

/-- irq is the OR of the enabled conditions, a function of the state, and 0 after reset (10_state.md R52). -/
def Obligations.IrqIsTheOrOfEnabledConditions : Prop :=
  (∀ s : State, s.irq = true ↔
    (s.ie.getLsbD 0 = true ∧ s.done = true) ∨ (s.ie.getLsbD 1 = true ∧ s.err = true) ∨
      (s.ie.getLsbD 2 = true ∧ s.busy = false)) ∧
  State.reset.irq = false

/-- No intermediate state is exposed: while DONE = 0, what a transaction answers does not depend on H, nor at any time on
the engine's Q, FIN, phase, W, working variables, t and j (10_state.md R50, R51; 60_exceptions.md R279). -/
def Obligations.NoResponseShowsIntermediateState : Prop :=
  ∀ (i : Instr) (s t s' t' : State),
    s' = { s with h := s'.h, q := s'.q, fin := s'.fin, phase := s'.phase, w := s'.w, wv := s'.wv, t := s'.t, j := s'.j } →
    (s.done = true → s'.h = s.h) →
    exec i s = .next t → exec i s' = .next t' →
      t'.rsp = t.rsp ∧ t'.status = t.status ∧ t'.irq = t.irq ∧ t'.len = t.len ∧ t'.mvalid = t.mvalid ∧
        t'.msg = t.msg ∧ t'.ie = t.ie

/-! ### Engine -/

/-- LOAD: W[0..15] are the head block's words, the working variables are H, t = 0, j = 16 (42_engine.md R182). -/
def Obligations.LoadCopiesTheHeadBlock : Prop :=
  ∀ (b : Block) (rest : List Block) (s : State), s.q = b :: rest → s.phase = .load →
    ∃ w : Sched,
      engineStep s = .next { s with w := w, wv := s.h, t := 0, j := 16, phase := .expand } ∧
      (∀ i (h : i < 16), w[i] = b[i]) ∧ (∀ i (h : i < 80), 16 ≤ i → w[i] = s.w[i])

/-- EXPAND: W[j] is the rotated XOR of the entries at distances 16, 14, 8 and 3, j advances, and ROUND follows at j = 80
(42_engine.md R183; 41_compression.md R154; all before round 0, the reference order, log 7). -/
def Obligations.ExpandWritesOneScheduleWord : Prop :=
  ∀ s : State, s.q ≠ [] → s.phase = .expand → (h : 16 ≤ s.j ∧ s.j ≤ 79) →
    ∃ w : Sched,
      engineStep s = .next { s with w := w, j := s.j + 1, phase := if s.j + 1 = 80 then .round else .expand } ∧
      w[s.j] = (s.w[s.j - 16] ^^^ s.w[s.j - 14] ^^^ s.w[s.j - 8] ^^^ s.w[s.j - 3]).rotateLeft 1 ∧
      (∀ i (h : i < 80), i ≠ s.j → w[i] = s.w[i])

/-- ROUND t: the new working variables from the old ones and W[t], t advances, and ACCUM follows at t = 80 (42_engine.md
R184; 41_compression.md R156). -/
def Obligations.RoundUpdatesTheWorkingVariables : Prop :=
  ∀ s : State, s.q ≠ [] → s.phase = .round → (h : s.t ≤ 79) →
    engineStep s =
      .next { s with
        wv := ⟨s.wv.e + roundF s.t s.wv.b s.wv.c s.wv.d + s.wv.a.rotateLeft 5 + s.w[s.t] + roundK s.t, s.wv.a,
          s.wv.b.rotateLeft 30, s.wv.c, s.wv.d⟩
        t := s.t + 1
        phase := if s.t + 1 = 80 then .accum else .round }

/-- The round constants and mixing functions of the four sub-passes (41_compression.md R151, R152). -/
def Obligations.SubPassesUseTheirConstantAndFunction : Prop :=
  ∀ (t : Nat) (b c d : Word),
    (t ≤ 19 → roundK t = 0x5A827999#32 ∧ roundF t b c d = (b &&& c) ||| (~~~b &&& d)) ∧
    (20 ≤ t → t ≤ 39 → roundK t = 0x6ED9EBA1#32 ∧ roundF t b c d = b ^^^ c ^^^ d) ∧
    (40 ≤ t → t ≤ 59 → roundK t = 0x8F1BBCDC#32 ∧ roundF t b c d = (b &&& c) ||| (b &&& d) ||| (c &&& d)) ∧
    (60 ≤ t → t ≤ 79 → roundK t = 0xCA62C1D6#32 ∧ roundF t b c d = b ^^^ c ^^^ d)

/-- ACCUM adds the working variables into H and pops the block; LOAD follows if a block is left, else BUSY falls, and DONE
rises after a FINAL without error (42_engine.md R185, R186). -/
def Obligations.AccumFinishesTheBlock : Prop :=
  ∀ (b : Block) (rest : List Block) (s : State), s.q = b :: rest → s.phase = .accum →
    (rest ≠ [] →
      engineStep s =
        .next { s with
          h := ⟨s.h.a + s.wv.a, s.h.b + s.wv.b, s.h.c + s.wv.c, s.h.d + s.wv.d, s.h.e + s.wv.e⟩
          q := rest
          phase := .load }) ∧
    (rest = [] →
      engineStep s =
        .next { s with
          h := ⟨s.h.a + s.wv.a, s.h.b + s.wv.b, s.h.c + s.wv.c, s.h.d + s.wv.d, s.h.e + s.wv.e⟩
          q := []
          phase := .idle
          busy := false
          done := if s.fin = true ∧ s.err = false then true else s.done
          fin := false })

/-- The engine never writes MSG, MVALID, LEN, IE, ERR or ERRCODE, and starts no transaction (42_engine.md R189). -/
def Obligations.EngineWritesOnlyItsOwnState : Prop :=
  ∀ s t : State, engineStep s = .next t →
    t.msg = s.msg ∧ t.mvalid = s.mvalid ∧ t.len = s.len ∧ t.ie = s.ie ∧ t.err = s.err ∧ t.errcode = s.errcode ∧
      t.rsp = s.rsp ∧ t.inputs = s.inputs

/-- A step of the engine is enabled exactly when Q is non-empty: it then moves to another state, and with Q empty it
changes nothing (42_engine.md R181; in the states of the invariant; the turn with Q empty is log 2). -/
def Obligations.EngineMovesExactlyWhenQueued : Prop :=
  ∀ s : State, StateInv s →
    (s.q = [] → engineStep s = .next s) ∧ (s.q ≠ [] → ∃ t, engineStep s = .next t ∧ t ≠ s)

/-- The sequence LOAD, 64 EXPAND, 80 ROUND, ACCUM of one queued block computes `Compress(H, Q[0])`, from any stale
schedule and working variables; before its last step H, Q, BUSY and DONE stand unchanged (42_engine.md R187, R180;
41_compression.md R159). -/
def Obligations.EngineSequenceComputesCompress : Prop :=
  ∀ (b : Block) (rest : List Block) (s : State), s.q = b :: rest → s.phase = .load →
    (∀ n, n < 146 → ∃ t, engineTurns n s = .next t ∧ t.h = s.h ∧ t.q = s.q ∧ t.busy = s.busy ∧ t.done = s.done) ∧
    ∃ t, engineTurns 146 s = .next t ∧ t.h = compress s.h b ∧ t.q = rest ∧
      (rest ≠ [] → t.phase = .load ∧ t.busy = s.busy ∧ t.done = s.done ∧ t.fin = s.fin) ∧
      (rest = [] → t.phase = .idle ∧ t.busy = false ∧ t.done = (s.done || (s.fin && !s.err)) ∧ t.fin = false) ∧
      t.len = s.len ∧ t.msg = s.msg ∧ t.mvalid = s.mvalid ∧ t.ie = s.ie ∧ t.err = s.err ∧ t.errcode = s.errcode

/-- Progress: from any state of the invariant the engine finishes its queued work in at most 292 turns, two blocks of
146 (42_engine.md R190; 70_reset_and_hazards.md R306; the bound is this model's count of the steps of R182 to R186). -/
def Obligations.EngineFinishesQueuedWork : Prop :=
  ∀ s : State, StateInv s → ∃ n t, n ≤ 292 ∧ engineTurns n s = .next t ∧ t.busy = false ∧ t.q = [] ∧ t.phase = .idle

/-! ### Functions -/

/-- rotl is the left circular rotation by n, 0 <= n <= 31 (00_scope.md R12). -/
def Obligations.RotlRotatesLeft : Prop :=
  ∀ (x : Word) (n i : Nat), n ≤ 31 → i < 32 → (rotl x n).getLsbD ((i + n) % 32) = x.getLsbD i

/-- The schedule of a block: entries 0 to 15 are its words, and each later entry the rotated XOR of four earlier ones
(41_compression.md R153, R154). -/
def Obligations.ScheduleMeetsItsRecurrence : Prop :=
  ∀ b : Block,
    (∀ i (h : i < 16), schedWord (schedule b) i = b[i]) ∧
    (∀ j, 16 ≤ j → j ≤ 79 →
      schedWord (schedule b) j =
        (schedWord (schedule b) (j - 16) ^^^ schedWord (schedule b) (j - 14) ^^^ schedWord (schedule b) (j - 8) ^^^
          schedWord (schedule b) (j - 3)).rotateLeft 1)

/-- The padding contract, all five clauses, for every message the function is defined on, with the length field read
back as a number; beyond it `Pad` has no value (40_padding.md R130, R132, R135; log 10). -/
def Obligations.PadMeetsItsContract : Prop :=
  ∀ m : List Byte,
    (8 * m.length < 2 ^ 64 → ∃ p, pad m = some p ∧
      p.length % 64 = 0 ∧ p.take m.length = m ∧ p[m.length]? = some 0x80#8 ∧
      (∀ k, m.length < k → k < p.length - 8 → p[k]? = some 0x00#8) ∧
      (p.drop (p.length - 8)).foldl (fun acc b => acc * 256 + b.toNat) 0 = 8 * m.length) ∧
    (¬8 * m.length < 2 ^ 64 → pad m = none)

/-- The zero-fill count is the least Z with L + 1 + Z + 8 a multiple of 64, and the padded length is
64 (floor((L + 8) / 64) + 1) (40_padding.md R131, R133). -/
def Obligations.ZeroFillIsMinimal : Prop :=
  ∀ len : Nat,
    (len + 1 + zeroFill len + 8) % 64 = 0 ∧ (∀ z, (len + 1 + z + 8) % 64 = 0 → zeroFill len ≤ z) ∧
    len + 1 + zeroFill len + 8 = 64 * ((len + 8) / 64 + 1)

/-- `Pad(M)` is M's full blocks followed by `Tail` of the last chunk (40_padding.md R138). -/
def Obligations.PadIsFullBlocksThenTail : Prop :=
  ∀ m : List Byte, 8 * m.length ≤ 2 ^ 64 - 1 →
    pad m = some (m.take (64 * (m.length / 64)) ++
      tail (lastChunk m) (m.length % 64) (BitVec.ofNat 64 (8 * m.length)))

/-- The digest is 20 bytes, byte 4i + k being bits 31 - 8k : 24 - 8k of H[i] (41_compression.md R161). -/
def Obligations.DigestSerializesBigEndian : Prop :=
  ∀ h : FiveWords,
    (digest h).length = 20 ∧
    ∀ i k, i < 5 → k < 4 →
      (digest h)[4 * i + k]? = some (([h.a, h.b, h.c, h.d, h.e].getD i 0#32).extractLsb' (24 - 8 * k) 8)

/-- The source's two shortest digests with a value: of "abc" and of the empty message (41_compression.md R162;
95_test_vectors.md L1-2, L1-4). -/
def Obligations.KnownDigests : Prop :=
  sha1 [0x61#8, 0x62#8, 0x63#8] =
    some [0xa9#8, 0x99#8, 0x3e#8, 0x36#8, 0x47#8, 0x06#8, 0x81#8, 0x6a#8, 0xba#8, 0x3e#8,
      0x25#8, 0x71#8, 0x78#8, 0x50#8, 0xc2#8, 0x6c#8, 0x9c#8, 0xd0#8, 0xd8#8, 0x9d#8] ∧
  sha1 [] =
    some [0xda#8, 0x39#8, 0xa3#8, 0xee#8, 0x5e#8, 0x6b#8, 0x4b#8, 0x0d#8, 0x32#8, 0x55#8,
      0xbf#8, 0xef#8, 0x95#8, 0x60#8, 0x18#8, 0x90#8, 0xaf#8, 0xd8#8, 0x07#8, 0x09#8]

/-! ### Reset and the invariant -/

/-- What reset leaves, for every piece of state the rule gives a value, and a reset pulse leads there from every state,
ending work in progress; what is still to come stays to come, the model's choice, log 12 (70_reset_and_hazards.md R290
to R292). -/
def Obligations.ResetLeavesTheStatedValues : Prop :=
  State.reset.h = ⟨0x67452301#32, 0xEFCDAB89#32, 0x98BADCFE#32, 0x10325476#32, 0xC3D2E1F0#32⟩ ∧
  State.reset.len = 0#64 ∧ (∀ i (h : i < 16), State.reset.msg[i] = 0#32) ∧ State.reset.mvalid = 0#16 ∧
  State.reset.busy = false ∧ State.reset.done = false ∧ State.reset.err = false ∧ State.reset.errcode = 0#4 ∧
  State.reset.ie = 0#3 ∧ State.reset.q = [] ∧ State.reset.fin = false ∧ State.reset.phase = .idle ∧
  State.reset.irq = false ∧ State.reset.status = 0#32 ∧
  ∀ (s : State) (rest : List Input), s.inputs = .reset :: rest → step s = .next { State.reset with inputs := rest }

/-- INIT right after reset is allowed and changes nothing (70_reset_and_hazards.md R294). -/
def Obligations.InitAfterResetChangesNothing : Prop :=
  exec .init State.reset = .next { State.reset with rsp := some (.write .okay) }

/-- The invariant holds at reset, whatever is to come; its ranges of t and j hold for the model's own reset values of them
(log 5). -/
def Obligations.InvariantHoldsAtReset : Prop := ∀ inputs : List Input, StateInv { State.reset with inputs := inputs }

/-- Every step keeps the invariant (10_state.md R51, R55). -/
def Obligations.StepKeepsTheInvariant : Prop := ∀ s t : State, StateInv s → step s = .next t → StateInv t

/-- The five invariants of every reachable state (10_state.md R55). The second is said of every transaction that makes
BUSY rise, which is what the acceptance of a BLOCK or a FINAL does. -/
def Obligations.ReachableStatesMeetTheirInvariants : Prop :=
  ∀ s : State, Reachable s →
    (s.done = true → s.busy = false) ∧
    (∀ i t, s.busy = false → exec i s = .next t → t.busy = true → s.len.toNat % 512 = 0) ∧
    (s.len.toNat ≤ 2 ^ 64 - 8 ∧
      (s.busy = false → s.done = false → s.err = false → s.len.toNat % 512 = 0 ∧ s.len.toNat ≤ 2 ^ 64 - 512)) ∧
    ((s.err = false → s.errcode = 0#4) ∧ (s.err = true → 1 ≤ s.errcode.toNat ∧ s.errcode.toNat ≤ 6)) ∧
    (s.busy = true → s.mvalid = 0#16)

/-- The reset values the spec leaves unspecified never show: from reset with any t, j, a..e and W, and with any events to
come, every run gives the same responses and the same host-visible state (70_reset_and_hazards.md R293). -/
def Obligations.UnspecifiedResetValuesNeverShow : Prop :=
  ∀ (n : Nat) (inputs : List Input) (t j : Nat) (wv : FiveWords) (w : Sched) (u : State),
    Host.Core.run core n ({ State.reset with inputs := inputs } : State) = .next u →
    ∃ u', Host.Core.run core n ({ State.reset with inputs := inputs, t := t, j := j, wv := wv, w := w } : State) = .next u' ∧
      u'.rsp = u.rsp ∧ u'.h = u.h ∧ u'.len = u.len ∧ u'.msg = u.msg ∧ u'.mvalid = u.mvalid ∧ u'.busy = u.busy ∧
      u'.done = u.done ∧ u'.err = u.err ∧ u'.errcode = u.errcode ∧ u'.ie = u.ie ∧ u'.q = u.q ∧ u'.fin = u.fin ∧
      u'.phase = u.phase ∧ u'.inputs = u.inputs

/-! ### The whole machine -/

/-- The canonical host sequence for M, from any state of the invariant: there is such a run, and every such run, however
the engine's turns and the polls interleave, ends with BUSY = 0, DONE = 1, ERR = 0, LEN = 8L and the five DIGEST reads
serialising to Sha1(M) (43_commands.md R210). -/
def Obligations.CanonicalSequenceHashesTheMessage : Prop :=
  ∀ (m : List Byte) (s : State), m.length ≤ 2 ^ 61 - 1 → StateInv s →
    (∃ t d, CanonicalRun m s t d) ∧
    ∀ t d, CanonicalRun m s t d →
      t.busy = false ∧ t.done = true ∧ t.err = false ∧ t.len.toNat = 8 * m.length ∧ sha1 m = some (digest d)

/-- Each instance takes only the transactions of its own 256 bytes, at ADDR = address - BASE, and no other instance is
touched (20_memory.md R74; 60_exceptions.md R277; the form of a platform is the model's, log 6). -/
def Obligations.AccessReachesTheAddressedInstance : Prop :=
  ∀ (p : List BlockInstance) (a : HostAccess) (k : Nat) (b : BlockInstance),
    (p.map (fun x => x.window)).Nodup → p[k]? = some b →
      (∀ off : BitVec 8, a.addr = baseAddress b.window + off.toNat →
        (platformAccess a p)[k]? =
          some { b with block := { b.block with inputs := b.block.inputs ++ [.request (.bus
            (match a with
              | .read _ => 0#1 ++ off ++ 0#32
              | .write _ data => 1#1 ++ off ++ data))] } } ∧
        ∀ k', k' ≠ k → (platformAccess a p)[k']? = p[k']?) ∧
      ((a.addr < baseAddress b.window ∨ baseAddress b.window + 256 ≤ a.addr) → (platformAccess a p)[k]? = p[k]?)

/-- No state is shared between instances: a step of one leaves every other as it was, and it steps as it would alone
(60_exceptions.md R277). -/
def Obligations.InstancesShareNoState : Prop :=
  ∀ (p p' : List BlockInstance) (i : Nat) (b : BlockInstance), p[i]? = some b → platformStep i p = .next p' →
    (∀ k, k ≠ i → p'[k]? = p[k]?) ∧
    ∃ s, step b.block = .next s ∧ p'[i]? = some { b with block := s }
end

