-- ==== Sys2Proof/Laws/Decode.lean ====
section
/-! SUPPORT. The fields of the two formats as numbers, and each field read back from the word it was put into. -/

namespace Sys2Proof.Laws

theorem cmdOp_toNat (v : BitVec 32) : (cmdOp v).toNat = v.toNat % 2 ^ 8 := by
  simp [cmdOp]

theorem cmdNbytes_toNat (v : BitVec 32) : (cmdNbytes v).toNat = v.toNat / 2 ^ 8 % 2 ^ 6 := by
  simp [cmdNbytes, Nat.shiftRight_eq_div_pow]

theorem cmdRsvd_toNat (v : BitVec 32) : (cmdRsvd v).toNat = v.toNat / 2 ^ 14 := by
  have := v.isLt
  simp only [cmdRsvd, BitVec.extractLsb'_toNat, Nat.shiftRight_eq_div_pow]
  omega

theorem busAddr_toNat (w : BitVec 41) : (busAddr w).toNat = w.toNat / 2 ^ 32 % 2 ^ 8 := by
  simp [busAddr, Nat.shiftRight_eq_div_pow]

theorem busData_toNat (w : BitVec 41) : (busData w).toNat = w.toNat % 2 ^ 32 := by
  simp [busData]

theorem busWr_eq (w : BitVec 41) : busWr w = decide (2 ^ 40 ≤ w.toNat) := by
  have := w.isLt
  rw [busWr, ← BitVec.testBit_toNat, Nat.testBit_eq_decide_div_mod_eq]
  congr 1
  apply propext
  omega

/-- An appended word as a number. -/
theorem append_toNat {m n : Nat} (x : BitVec m) (y : BitVec n) :
    (x ++ y).toNat = x.toNat * 2 ^ n + y.toNat := by
  rw [BitVec.toNat_append, Nat.shiftLeft_eq, Nat.mul_comm, Nat.two_pow_add_eq_or_of_lt y.isLt]

theorem cmdWord_toNat (op : BitVec 8) (n : BitVec 6) : (cmdWord op n).toNat = n.toNat * 2 ^ 8 + op.toNat := by
  have h : (cmdWord op n).toNat = ((0#18 ++ n).toNat) * 2 ^ 8 + op.toNat := append_toNat _ _
  rw [h, append_toNat]
  simp

theorem busReadWord_toNat (addr : BitVec 8) : (busReadWord addr).toNat = addr.toNat * 2 ^ 32 := by
  have h : (busReadWord addr).toNat = ((0#1 ++ addr).toNat) * 2 ^ 32 + (0#32).toNat := append_toNat _ _
  rw [h, append_toNat]
  simp

theorem busWriteWord_toNat (addr : BitVec 8) (data : Word) :
    (busWriteWord addr data).toNat = 2 ^ 40 + addr.toNat * 2 ^ 32 + data.toNat := by
  have h : (busWriteWord addr data).toNat = ((1#1 ++ addr).toNat) * 2 ^ 32 + data.toNat := append_toNat _ _
  rw [h, append_toNat]
  simp
  omega

@[simp] theorem busWr_busReadWord (addr : BitVec 8) : busWr (busReadWord addr) = false := by
  have := addr.isLt
  rw [busWr_eq, busReadWord_toNat, decide_eq_false_iff_not]
  omega

@[simp] theorem busAddr_busReadWord (addr : BitVec 8) : busAddr (busReadWord addr) = addr := by
  have := addr.isLt
  apply BitVec.eq_of_toNat_eq
  rw [busAddr_toNat, busReadWord_toNat]
  omega

@[simp] theorem busWr_busWriteWord (addr : BitVec 8) (data : Word) : busWr (busWriteWord addr data) = true := by
  rw [busWr_eq, busWriteWord_toNat, decide_eq_true_iff]
  omega

@[simp] theorem busAddr_busWriteWord (addr : BitVec 8) (data : Word) : busAddr (busWriteWord addr data) = addr := by
  have := addr.isLt
  have := data.isLt
  apply BitVec.eq_of_toNat_eq
  rw [busAddr_toNat, busWriteWord_toNat]
  omega

@[simp] theorem busData_busWriteWord (addr : BitVec 8) (data : Word) : busData (busWriteWord addr data) = data := by
  have := data.isLt
  apply BitVec.eq_of_toNat_eq
  rw [busData_toNat, busWriteWord_toNat]
  omega

@[simp] theorem cmdOp_cmdWord (op : BitVec 8) (n : BitVec 6) : cmdOp (cmdWord op n) = op := by
  have := op.isLt
  apply BitVec.eq_of_toNat_eq
  rw [cmdOp_toNat, cmdWord_toNat]
  omega

@[simp] theorem cmdNbytes_cmdWord (op : BitVec 8) (n : BitVec 6) : cmdNbytes (cmdWord op n) = n := by
  have := op.isLt
  have := n.isLt
  apply BitVec.eq_of_toNat_eq
  rw [cmdNbytes_toNat, cmdWord_toNat]
  omega

@[simp] theorem cmdRsvd_cmdWord (op : BitVec 8) (n : BitVec 6) : cmdRsvd (cmdWord op n) = 0#18 := by
  have := op.isLt
  have := n.isLt
  apply BitVec.eq_of_toNat_eq
  rw [cmdRsvd_toNat, cmdWord_toNat]
  simp
  omega

/-- The bytes of a transaction read back as that transaction. -/
theorem requestOfBytes_requestBytes (r : Request) : requestOfBytes (requestBytes r) = .ok r := by
  cases r with
  | cmd w =>
    have := w.isLt
    simp only [requestBytes, List.range, List.range.loop, List.map, requestOfBytes]
    congr 2
    apply BitVec.eq_of_toNat_eq
    have join : ∀ a b c d : BitVec 8, (a ++ b ++ c ++ d : BitVec 32).toNat =
        ((a.toNat * 2 ^ 8 + b.toNat) * 2 ^ 8 + c.toNat) * 2 ^ 8 + d.toNat := fun a b c d => by
      have h : (a ++ b ++ c ++ d : BitVec 32).toNat = _ := append_toNat (a ++ b ++ c) d
      rw [h, append_toNat, append_toNat]
    rw [join]
    simp only [BitVec.extractLsb'_toNat, Nat.shiftRight_eq_div_pow]
    omega
  | bus w =>
    have := w.isLt
    have h : ((w.setWidth 48).extractLsb' 40 8).toNat ≤ 1 := by
      simp [BitVec.extractLsb'_toNat, Nat.shiftRight_eq_div_pow]
      omega
    simp only [requestBytes, List.range, List.range.loop, List.map, requestOfBytes, Nat.reduceMul]
    rw [if_pos h]
    congr 2
    apply BitVec.eq_of_toNat_eq
    have join : ∀ (z : BitVec 1) (y a b c d : BitVec 8), (z ++ y ++ a ++ b ++ c ++ d : BitVec 41).toNat =
        ((((z.toNat * 2 ^ 8 + y.toNat) * 2 ^ 8 + a.toNat) * 2 ^ 8 + b.toNat) * 2 ^ 8 + c.toNat) * 2 ^ 8 + d.toNat :=
      fun z y a b c d => by
        have h : (z ++ y ++ a ++ b ++ c ++ d : BitVec 41).toNat = _ := append_toNat (z ++ y ++ a ++ b ++ c) d
        rw [h, append_toNat, append_toNat, append_toNat, append_toNat]
    rw [join]
    simp only [BitVec.extractLsb'_toNat, Nat.shiftRight_eq_div_pow, BitVec.toNat_setWidth]
    omega

/-- Masking a BUS word with the mask of a register's row keeps WR and ADDR. -/
theorem and_rowMask (w : Nat) : w &&& 0x1FF00000000 = w / 2 ^ 32 % 512 * 2 ^ 32 := by
  rw [show 0x1FF00000000 = (2 ^ 9 - 1) <<< 32 by rfl]
  apply Nat.eq_of_testBit_eq
  intro i
  rw [Nat.testBit_and, Nat.testBit_shiftLeft, Nat.testBit_two_pow_sub_one, ← Nat.shiftLeft_eq, Nat.testBit_shiftLeft,
    show 512 = 2 ^ 9 by rfl, Nat.testBit_mod_two_pow, Nat.testBit_div_two_pow]
  by_cases h : 32 ≤ i
  · simp [h, show i - 32 + 32 = i by omega, Bool.and_comm]
  · simp [h]

/-- Masking a BUS word with the mask of an unmapped row keeps WR. -/
theorem and_wrMask (w : Nat) : w &&& 0x10000000000 = w / 2 ^ 40 % 2 * 2 ^ 40 := by
  rw [show 0x10000000000 = (2 ^ 1 - 1) <<< 40 by rfl, show w / 2 ^ 40 % 2 = w / 2 ^ 40 % 2 ^ 1 by rfl]
  apply Nat.eq_of_testBit_eq
  intro i
  rw [Nat.testBit_and, Nat.testBit_shiftLeft, Nat.testBit_two_pow_sub_one, ← Nat.shiftLeft_eq, Nat.testBit_shiftLeft,
    Nat.testBit_mod_two_pow, Nat.testBit_div_two_pow]
  by_cases h : 40 ≤ i
  · simp [h, show i - 40 + 40 = i by omega, Bool.and_comm]
  · simp [h]

/-- The row of a BUS word does not depend on DATA (30_encoding.md R106). -/
theorem firstRow_busRows (w : Nat) : firstRow busRows w = firstRow busRows (w / 2 ^ 32 % 512 * 2 ^ 32) := by
  unfold firstRow
  congr 1
  apply List.find?_congr
  intro r hr
  have hm : r.mask = 0x1FF00000000 ∨ r.mask = 0x10000000000 := by
    revert r
    decide
  unfold TableRow.covers
  rcases hm with h | h <;> rw [h]
  · rw [and_rowMask, and_rowMask, show w / 2 ^ 32 % 512 * 2 ^ 32 / 2 ^ 32 % 512 = w / 2 ^ 32 % 512 by omega]
  · rw [and_wrMask, and_wrMask, show w / 2 ^ 32 % 512 * 2 ^ 32 / 2 ^ 40 % 2 = w / 2 ^ 40 % 2 by omega]

end Sys2Proof.Laws
end

