-- ==== Sys2Proof/Laws/State.lean ====
section
/-! SUPPORT. One lemma per field per update: what each named state update leaves in each field. -/

namespace Sys2Proof.Laws

open Sys2Proof.Machine

variable (s : State)

/-! ### raiseError -/

@[simp] theorem raiseError_h (c : ErrorCode) : (raiseError c s).h = s.h := by
  unfold raiseError; split <;> simp_all
@[simp] theorem raiseError_len (c : ErrorCode) : (raiseError c s).len = s.len := by
  unfold raiseError; split <;> simp_all
@[simp] theorem raiseError_msg (c : ErrorCode) : (raiseError c s).msg = s.msg := by
  unfold raiseError; split <;> simp_all
@[simp] theorem raiseError_mvalid (c : ErrorCode) : (raiseError c s).mvalid = s.mvalid := by
  unfold raiseError; split <;> simp_all
@[simp] theorem raiseError_busy (c : ErrorCode) : (raiseError c s).busy = s.busy := by
  unfold raiseError; split <;> simp_all
@[simp] theorem raiseError_done (c : ErrorCode) : (raiseError c s).done = s.done := by
  unfold raiseError; split <;> simp_all
@[simp] theorem raiseError_err (c : ErrorCode) : (raiseError c s).err = true := by
  unfold raiseError; split <;> simp_all
@[simp] theorem raiseError_errcode (c : ErrorCode) : (raiseError c s).errcode = if s.err then s.errcode else errorNumber c := by
  unfold raiseError; split <;> simp_all
@[simp] theorem raiseError_ie (c : ErrorCode) : (raiseError c s).ie = s.ie := by
  unfold raiseError; split <;> simp_all
@[simp] theorem raiseError_wv (c : ErrorCode) : (raiseError c s).wv = s.wv := by
  unfold raiseError; split <;> simp_all
@[simp] theorem raiseError_w (c : ErrorCode) : (raiseError c s).w = s.w := by
  unfold raiseError; split <;> simp_all
@[simp] theorem raiseError_q (c : ErrorCode) : (raiseError c s).q = s.q := by
  unfold raiseError; split <;> simp_all
@[simp] theorem raiseError_fin (c : ErrorCode) : (raiseError c s).fin = s.fin := by
  unfold raiseError; split <;> simp_all
@[simp] theorem raiseError_phase (c : ErrorCode) : (raiseError c s).phase = s.phase := by
  unfold raiseError; split <;> simp_all
@[simp] theorem raiseError_t (c : ErrorCode) : (raiseError c s).t = s.t := by
  unfold raiseError; split <;> simp_all
@[simp] theorem raiseError_j (c : ErrorCode) : (raiseError c s).j = s.j := by
  unfold raiseError; split <;> simp_all
@[simp] theorem raiseError_rsp (c : ErrorCode) : (raiseError c s).rsp = s.rsp := by
  unfold raiseError; split <;> simp_all
@[simp] theorem raiseError_inputs (c : ErrorCode) : (raiseError c s).inputs = s.inputs := by
  unfold raiseError; split <;> simp_all

/-! ### initSession -/

@[simp] theorem initSession_h : (initSession s).h = iv := rfl
@[simp] theorem initSession_len : (initSession s).len = 0#64 := rfl
@[simp] theorem initSession_msg : (initSession s).msg = s.msg := rfl
@[simp] theorem initSession_mvalid : (initSession s).mvalid = 0#16 := rfl
@[simp] theorem initSession_busy : (initSession s).busy = s.busy := rfl
@[simp] theorem initSession_done : (initSession s).done = false := rfl
@[simp] theorem initSession_err : (initSession s).err = false := rfl
@[simp] theorem initSession_errcode : (initSession s).errcode = 0#4 := rfl
@[simp] theorem initSession_ie : (initSession s).ie = s.ie := rfl
@[simp] theorem initSession_wv : (initSession s).wv = s.wv := rfl
@[simp] theorem initSession_w : (initSession s).w = s.w := rfl
@[simp] theorem initSession_q : (initSession s).q = s.q := rfl
@[simp] theorem initSession_fin : (initSession s).fin = s.fin := rfl
@[simp] theorem initSession_phase : (initSession s).phase = s.phase := rfl
@[simp] theorem initSession_t : (initSession s).t = s.t := rfl
@[simp] theorem initSession_j : (initSession s).j = s.j := rfl
@[simp] theorem initSession_rsp : (initSession s).rsp = s.rsp := rfl
@[simp] theorem initSession_inputs : (initSession s).inputs = s.inputs := rfl

/-! ### writeIe -/

@[simp] theorem writeIe_h (d : Word) : (writeIe d s).h = s.h := rfl
@[simp] theorem writeIe_len (d : Word) : (writeIe d s).len = s.len := rfl
@[simp] theorem writeIe_msg (d : Word) : (writeIe d s).msg = s.msg := rfl
@[simp] theorem writeIe_mvalid (d : Word) : (writeIe d s).mvalid = s.mvalid := rfl
@[simp] theorem writeIe_busy (d : Word) : (writeIe d s).busy = s.busy := rfl
@[simp] theorem writeIe_done (d : Word) : (writeIe d s).done = s.done := rfl
@[simp] theorem writeIe_err (d : Word) : (writeIe d s).err = s.err := rfl
@[simp] theorem writeIe_errcode (d : Word) : (writeIe d s).errcode = s.errcode := rfl
@[simp] theorem writeIe_ie (d : Word) : (writeIe d s).ie = d.extractLsb' 0 3 := rfl
@[simp] theorem writeIe_wv (d : Word) : (writeIe d s).wv = s.wv := rfl
@[simp] theorem writeIe_w (d : Word) : (writeIe d s).w = s.w := rfl
@[simp] theorem writeIe_q (d : Word) : (writeIe d s).q = s.q := rfl
@[simp] theorem writeIe_fin (d : Word) : (writeIe d s).fin = s.fin := rfl
@[simp] theorem writeIe_phase (d : Word) : (writeIe d s).phase = s.phase := rfl
@[simp] theorem writeIe_t (d : Word) : (writeIe d s).t = s.t := rfl
@[simp] theorem writeIe_j (d : Word) : (writeIe d s).j = s.j := rfl
@[simp] theorem writeIe_rsp (d : Word) : (writeIe d s).rsp = s.rsp := rfl
@[simp] theorem writeIe_inputs (d : Word) : (writeIe d s).inputs = s.inputs := rfl

/-! ### writeMsg -/

@[simp] theorem writeMsg_h (i : Fin 16) (d : Word) : (writeMsg i d s).h = s.h := by
  cases hb : s.busy <;> simp [writeMsg, hb]
@[simp] theorem writeMsg_len (i : Fin 16) (d : Word) : (writeMsg i d s).len = s.len := by
  cases hb : s.busy <;> simp [writeMsg, hb]
@[simp] theorem writeMsg_msg (i : Fin 16) (d : Word) : (writeMsg i d s).msg = if s.busy then s.msg else s.msg.set i.val d i.isLt := by
  cases hb : s.busy <;> simp [writeMsg, hb]
@[simp] theorem writeMsg_mvalid (i : Fin 16) (d : Word) : (writeMsg i d s).mvalid = if s.busy then s.mvalid else setValid s.mvalid i.val := by
  cases hb : s.busy <;> simp [writeMsg, hb]
@[simp] theorem writeMsg_busy (i : Fin 16) (d : Word) : (writeMsg i d s).busy = s.busy := by
  cases hb : s.busy <;> simp [writeMsg, hb]
@[simp] theorem writeMsg_done (i : Fin 16) (d : Word) : (writeMsg i d s).done = s.done := by
  cases hb : s.busy <;> simp [writeMsg, hb]
@[simp] theorem writeMsg_err (i : Fin 16) (d : Word) : (writeMsg i d s).err = (s.busy || s.err) := by
  cases hb : s.busy <;> simp [writeMsg, hb]
@[simp] theorem writeMsg_errcode (i : Fin 16) (d : Word) : (writeMsg i d s).errcode = if s.busy && !s.err then 2#4 else s.errcode := by
  cases hb : s.busy <;> cases he : s.err <;> simp [writeMsg, hb, he, errorNumber]
@[simp] theorem writeMsg_ie (i : Fin 16) (d : Word) : (writeMsg i d s).ie = s.ie := by
  cases hb : s.busy <;> simp [writeMsg, hb]
@[simp] theorem writeMsg_wv (i : Fin 16) (d : Word) : (writeMsg i d s).wv = s.wv := by
  cases hb : s.busy <;> simp [writeMsg, hb]
@[simp] theorem writeMsg_w (i : Fin 16) (d : Word) : (writeMsg i d s).w = s.w := by
  cases hb : s.busy <;> simp [writeMsg, hb]
@[simp] theorem writeMsg_q (i : Fin 16) (d : Word) : (writeMsg i d s).q = s.q := by
  cases hb : s.busy <;> simp [writeMsg, hb]
@[simp] theorem writeMsg_fin (i : Fin 16) (d : Word) : (writeMsg i d s).fin = s.fin := by
  cases hb : s.busy <;> simp [writeMsg, hb]
@[simp] theorem writeMsg_phase (i : Fin 16) (d : Word) : (writeMsg i d s).phase = s.phase := by
  cases hb : s.busy <;> simp [writeMsg, hb]
@[simp] theorem writeMsg_t (i : Fin 16) (d : Word) : (writeMsg i d s).t = s.t := by
  cases hb : s.busy <;> simp [writeMsg, hb]
@[simp] theorem writeMsg_j (i : Fin 16) (d : Word) : (writeMsg i d s).j = s.j := by
  cases hb : s.busy <;> simp [writeMsg, hb]
@[simp] theorem writeMsg_rsp (i : Fin 16) (d : Word) : (writeMsg i d s).rsp = s.rsp := by
  cases hb : s.busy <;> simp [writeMsg, hb]
@[simp] theorem writeMsg_inputs (i : Fin 16) (d : Word) : (writeMsg i d s).inputs = s.inputs := by
  cases hb : s.busy <;> simp [writeMsg, hb]

/-! ### acceptBlock -/

@[simp] theorem acceptBlock_h : (acceptBlock s).h = s.h := by simp only [acceptBlock]
@[simp] theorem acceptBlock_len : (acceptBlock s).len = s.len + 512#64 := by simp only [acceptBlock]
@[simp] theorem acceptBlock_msg : (acceptBlock s).msg = s.msg := by simp only [acceptBlock]
@[simp] theorem acceptBlock_mvalid : (acceptBlock s).mvalid = 0#16 := by simp only [acceptBlock]
@[simp] theorem acceptBlock_busy : (acceptBlock s).busy = true := by simp only [acceptBlock]
@[simp] theorem acceptBlock_done : (acceptBlock s).done = s.done := by simp only [acceptBlock]
@[simp] theorem acceptBlock_err : (acceptBlock s).err = s.err := by simp only [acceptBlock]
@[simp] theorem acceptBlock_errcode : (acceptBlock s).errcode = s.errcode := by simp only [acceptBlock]
@[simp] theorem acceptBlock_ie : (acceptBlock s).ie = s.ie := by simp only [acceptBlock]
@[simp] theorem acceptBlock_wv : (acceptBlock s).wv = s.wv := by simp only [acceptBlock]
@[simp] theorem acceptBlock_w : (acceptBlock s).w = s.w := by simp only [acceptBlock]
@[simp] theorem acceptBlock_q : (acceptBlock s).q = [s.msg] := by simp only [acceptBlock]
@[simp] theorem acceptBlock_fin : (acceptBlock s).fin = false := by simp only [acceptBlock]
@[simp] theorem acceptBlock_phase : (acceptBlock s).phase = .load := by simp only [acceptBlock]
@[simp] theorem acceptBlock_t : (acceptBlock s).t = s.t := by simp only [acceptBlock]
@[simp] theorem acceptBlock_j : (acceptBlock s).j = s.j := by simp only [acceptBlock]
@[simp] theorem acceptBlock_rsp : (acceptBlock s).rsp = s.rsp := by simp only [acceptBlock]
@[simp] theorem acceptBlock_inputs : (acceptBlock s).inputs = s.inputs := by simp only [acceptBlock]

/-! ### acceptFinal -/

@[simp] theorem acceptFinal_h (n : Nat) : (acceptFinal n s).h = s.h := by simp only [acceptFinal]
@[simp] theorem acceptFinal_len (n : Nat) : (acceptFinal n s).len = finalLength s n := by simp only [acceptFinal]
@[simp] theorem acceptFinal_msg (n : Nat) : (acceptFinal n s).msg = s.msg := by simp only [acceptFinal]
@[simp] theorem acceptFinal_mvalid (n : Nat) : (acceptFinal n s).mvalid = 0#16 := by simp only [acceptFinal]
@[simp] theorem acceptFinal_busy (n : Nat) : (acceptFinal n s).busy = true := by simp only [acceptFinal]
@[simp] theorem acceptFinal_done (n : Nat) : (acceptFinal n s).done = s.done := by simp only [acceptFinal]
@[simp] theorem acceptFinal_err (n : Nat) : (acceptFinal n s).err = s.err := by simp only [acceptFinal]
@[simp] theorem acceptFinal_errcode (n : Nat) : (acceptFinal n s).errcode = s.errcode := by simp only [acceptFinal]
@[simp] theorem acceptFinal_ie (n : Nat) : (acceptFinal n s).ie = s.ie := by simp only [acceptFinal]
@[simp] theorem acceptFinal_wv (n : Nat) : (acceptFinal n s).wv = s.wv := by simp only [acceptFinal]
@[simp] theorem acceptFinal_w (n : Nat) : (acceptFinal n s).w = s.w := by simp only [acceptFinal]
@[simp] theorem acceptFinal_q (n : Nat) : (acceptFinal n s).q = tailBlocks (tail (chunk s.msg n) n (finalLength s n)) n := by simp only [acceptFinal]
@[simp] theorem acceptFinal_fin (n : Nat) : (acceptFinal n s).fin = true := by simp only [acceptFinal]
@[simp] theorem acceptFinal_phase (n : Nat) : (acceptFinal n s).phase = .load := by simp only [acceptFinal]
@[simp] theorem acceptFinal_t (n : Nat) : (acceptFinal n s).t = s.t := by simp only [acceptFinal]
@[simp] theorem acceptFinal_j (n : Nat) : (acceptFinal n s).j = s.j := by simp only [acceptFinal]
@[simp] theorem acceptFinal_rsp (n : Nat) : (acceptFinal n s).rsp = s.rsp := by simp only [acceptFinal]
@[simp] theorem acceptFinal_inputs (n : Nat) : (acceptFinal n s).inputs = s.inputs := by simp only [acceptFinal]

/-! ### engineLoad -/

@[simp] theorem engineLoad_h (b : Block) : (engineLoad b s).h = s.h := rfl
@[simp] theorem engineLoad_len (b : Block) : (engineLoad b s).len = s.len := rfl
@[simp] theorem engineLoad_msg (b : Block) : (engineLoad b s).msg = s.msg := rfl
@[simp] theorem engineLoad_mvalid (b : Block) : (engineLoad b s).mvalid = s.mvalid := rfl
@[simp] theorem engineLoad_busy (b : Block) : (engineLoad b s).busy = s.busy := rfl
@[simp] theorem engineLoad_done (b : Block) : (engineLoad b s).done = s.done := rfl
@[simp] theorem engineLoad_err (b : Block) : (engineLoad b s).err = s.err := rfl
@[simp] theorem engineLoad_errcode (b : Block) : (engineLoad b s).errcode = s.errcode := rfl
@[simp] theorem engineLoad_ie (b : Block) : (engineLoad b s).ie = s.ie := rfl
@[simp] theorem engineLoad_wv (b : Block) : (engineLoad b s).wv = s.h := rfl
@[simp] theorem engineLoad_w (b : Block) : (engineLoad b s).w = loadSchedule b s.w := rfl
@[simp] theorem engineLoad_q (b : Block) : (engineLoad b s).q = s.q := rfl
@[simp] theorem engineLoad_fin (b : Block) : (engineLoad b s).fin = s.fin := rfl
@[simp] theorem engineLoad_phase (b : Block) : (engineLoad b s).phase = .expand := rfl
@[simp] theorem engineLoad_t (b : Block) : (engineLoad b s).t = 0 := rfl
@[simp] theorem engineLoad_j (b : Block) : (engineLoad b s).j = 16 := rfl
@[simp] theorem engineLoad_rsp (b : Block) : (engineLoad b s).rsp = s.rsp := rfl
@[simp] theorem engineLoad_inputs (b : Block) : (engineLoad b s).inputs = s.inputs := rfl

/-! ### engineExpand -/

@[simp] theorem engineExpand_h : (engineExpand s).h = s.h := rfl
@[simp] theorem engineExpand_len : (engineExpand s).len = s.len := rfl
@[simp] theorem engineExpand_msg : (engineExpand s).msg = s.msg := rfl
@[simp] theorem engineExpand_mvalid : (engineExpand s).mvalid = s.mvalid := rfl
@[simp] theorem engineExpand_busy : (engineExpand s).busy = s.busy := rfl
@[simp] theorem engineExpand_done : (engineExpand s).done = s.done := rfl
@[simp] theorem engineExpand_err : (engineExpand s).err = s.err := rfl
@[simp] theorem engineExpand_errcode : (engineExpand s).errcode = s.errcode := rfl
@[simp] theorem engineExpand_ie : (engineExpand s).ie = s.ie := rfl
@[simp] theorem engineExpand_wv : (engineExpand s).wv = s.wv := rfl
@[simp] theorem engineExpand_w : (engineExpand s).w = expandAt s.j s.w := rfl
@[simp] theorem engineExpand_q : (engineExpand s).q = s.q := rfl
@[simp] theorem engineExpand_fin : (engineExpand s).fin = s.fin := rfl
@[simp] theorem engineExpand_phase : (engineExpand s).phase = if s.j + 1 = 80 then .round else .expand := rfl
@[simp] theorem engineExpand_t : (engineExpand s).t = s.t := rfl
@[simp] theorem engineExpand_j : (engineExpand s).j = s.j + 1 := rfl
@[simp] theorem engineExpand_rsp : (engineExpand s).rsp = s.rsp := rfl
@[simp] theorem engineExpand_inputs : (engineExpand s).inputs = s.inputs := rfl

/-! ### engineRound -/

@[simp] theorem engineRound_h : (engineRound s).h = s.h := rfl
@[simp] theorem engineRound_len : (engineRound s).len = s.len := rfl
@[simp] theorem engineRound_msg : (engineRound s).msg = s.msg := rfl
@[simp] theorem engineRound_mvalid : (engineRound s).mvalid = s.mvalid := rfl
@[simp] theorem engineRound_busy : (engineRound s).busy = s.busy := rfl
@[simp] theorem engineRound_done : (engineRound s).done = s.done := rfl
@[simp] theorem engineRound_err : (engineRound s).err = s.err := rfl
@[simp] theorem engineRound_errcode : (engineRound s).errcode = s.errcode := rfl
@[simp] theorem engineRound_ie : (engineRound s).ie = s.ie := rfl
@[simp] theorem engineRound_wv : (engineRound s).wv = Machine.round s.t s.wv (schedWord s.w s.t) := rfl
@[simp] theorem engineRound_w : (engineRound s).w = s.w := rfl
@[simp] theorem engineRound_q : (engineRound s).q = s.q := rfl
@[simp] theorem engineRound_fin : (engineRound s).fin = s.fin := rfl
@[simp] theorem engineRound_phase : (engineRound s).phase = if s.t + 1 = 80 then .accum else .round := rfl
@[simp] theorem engineRound_t : (engineRound s).t = s.t + 1 := rfl
@[simp] theorem engineRound_j : (engineRound s).j = s.j := rfl
@[simp] theorem engineRound_rsp : (engineRound s).rsp = s.rsp := rfl
@[simp] theorem engineRound_inputs : (engineRound s).inputs = s.inputs := rfl

/-! ### engineComplete -/

@[simp] theorem engineComplete_h : (engineComplete s).h = s.h := rfl
@[simp] theorem engineComplete_len : (engineComplete s).len = s.len := rfl
@[simp] theorem engineComplete_msg : (engineComplete s).msg = s.msg := rfl
@[simp] theorem engineComplete_mvalid : (engineComplete s).mvalid = s.mvalid := rfl
@[simp] theorem engineComplete_busy : (engineComplete s).busy = false := rfl
@[simp] theorem engineComplete_done : (engineComplete s).done = (s.done || (s.fin && !s.err)) := rfl
@[simp] theorem engineComplete_err : (engineComplete s).err = s.err := rfl
@[simp] theorem engineComplete_errcode : (engineComplete s).errcode = s.errcode := rfl
@[simp] theorem engineComplete_ie : (engineComplete s).ie = s.ie := rfl
@[simp] theorem engineComplete_wv : (engineComplete s).wv = s.wv := rfl
@[simp] theorem engineComplete_w : (engineComplete s).w = s.w := rfl
@[simp] theorem engineComplete_q : (engineComplete s).q = s.q := rfl
@[simp] theorem engineComplete_fin : (engineComplete s).fin = false := rfl
@[simp] theorem engineComplete_phase : (engineComplete s).phase = .idle := rfl
@[simp] theorem engineComplete_t : (engineComplete s).t = s.t := rfl
@[simp] theorem engineComplete_j : (engineComplete s).j = s.j := rfl
@[simp] theorem engineComplete_rsp : (engineComplete s).rsp = s.rsp := rfl
@[simp] theorem engineComplete_inputs : (engineComplete s).inputs = s.inputs := rfl

/-! ### engineAccum -/

@[simp] theorem engineAccum_h (rest : List Block) : (engineAccum rest s).h = accumulate s.h s.wv := by
  cases rest <;> simp [engineAccum, engineComplete]
@[simp] theorem engineAccum_len (rest : List Block) : (engineAccum rest s).len = s.len := by
  cases rest <;> simp [engineAccum, engineComplete]
@[simp] theorem engineAccum_msg (rest : List Block) : (engineAccum rest s).msg = s.msg := by
  cases rest <;> simp [engineAccum, engineComplete]
@[simp] theorem engineAccum_mvalid (rest : List Block) : (engineAccum rest s).mvalid = s.mvalid := by
  cases rest <;> simp [engineAccum, engineComplete]
@[simp] theorem engineAccum_busy (rest : List Block) : (engineAccum rest s).busy = (s.busy && !rest.isEmpty) := by
  cases rest <;> simp [engineAccum, engineComplete]
@[simp] theorem engineAccum_done (rest : List Block) : (engineAccum rest s).done = (s.done || (rest.isEmpty && (s.fin && !s.err))) := by
  cases rest <;> simp [engineAccum, engineComplete]
@[simp] theorem engineAccum_err (rest : List Block) : (engineAccum rest s).err = s.err := by
  cases rest <;> simp [engineAccum, engineComplete]
@[simp] theorem engineAccum_errcode (rest : List Block) : (engineAccum rest s).errcode = s.errcode := by
  cases rest <;> simp [engineAccum, engineComplete]
@[simp] theorem engineAccum_ie (rest : List Block) : (engineAccum rest s).ie = s.ie := by
  cases rest <;> simp [engineAccum, engineComplete]
@[simp] theorem engineAccum_wv (rest : List Block) : (engineAccum rest s).wv = s.wv := by
  cases rest <;> simp [engineAccum, engineComplete]
@[simp] theorem engineAccum_w (rest : List Block) : (engineAccum rest s).w = s.w := by
  cases rest <;> simp [engineAccum, engineComplete]
@[simp] theorem engineAccum_q (rest : List Block) : (engineAccum rest s).q = rest := by
  cases rest <;> simp [engineAccum, engineComplete]
@[simp] theorem engineAccum_fin (rest : List Block) : (engineAccum rest s).fin = (s.fin && !rest.isEmpty) := by
  cases rest <;> simp [engineAccum, engineComplete]
@[simp] theorem engineAccum_phase (rest : List Block) : (engineAccum rest s).phase = if rest = [] then .idle else .load := by
  cases rest <;> simp [engineAccum, engineComplete]
@[simp] theorem engineAccum_t (rest : List Block) : (engineAccum rest s).t = s.t := by
  cases rest <;> simp [engineAccum, engineComplete]
@[simp] theorem engineAccum_j (rest : List Block) : (engineAccum rest s).j = s.j := by
  cases rest <;> simp [engineAccum, engineComplete]
@[simp] theorem engineAccum_rsp (rest : List Block) : (engineAccum rest s).rsp = s.rsp := by
  cases rest <;> simp [engineAccum, engineComplete]
@[simp] theorem engineAccum_inputs (rest : List Block) : (engineAccum rest s).inputs = s.inputs := by
  cases rest <;> simp [engineAccum, engineComplete]

end Sys2Proof.Laws
end

