-- ==== Sys2Proof/Laws/Ops.lean ====
section
/-! SUPPORT. Spec lemmas of the shared operations: what each can do, said once. -/

namespace Sys2Proof.Laws

open Sys2Proof.Machine

variable {s t : State}

@[simp] theorem answerRead_eq_next {d : Word} {r : Resp} :
    answerRead s d r = .next t ↔ t = { s with rsp := some (.read d r) } := by
  simp [answerRead, eq_comm]

@[simp] theorem answerWrite_eq_next {r : Resp} :
    answerWrite s r = .next t ↔ t = { s with rsp := some (.write r) } := by
  simp [answerWrite, eq_comm]

/-- Bits 0, 1 and 2 of STATUS are BUSY, DONE and ERR (10_state.md R42). -/
theorem status_flag_bits (s : State) :
    s.status.getLsbD 0 = s.busy ∧ s.status.getLsbD 1 = s.done ∧ s.status.getLsbD 2 = s.err := by
  have all : ∀ (e : BitVec 4) (err done busy : Bool),
      let w : Word := (e ++ (0#1 ++ (flagBit err ++ (flagBit done ++ flagBit busy)))).setWidth 32
      w.getLsbD 0 = busy ∧ w.getLsbD 1 = done ∧ w.getLsbD 2 = err := by decide
  exact all s.errcode s.err s.done s.busy

theorem status_busy_bit (s : State) : s.status.getLsbD 0 = s.busy := (status_flag_bits s).1

theorem raiseError_cases (c : ErrorCode) (s : State) :
    (s.err = true ∧ raiseError c s = s) ∨
      (s.err = false ∧ raiseError c s = { s with err := true, errcode := errorNumber c }) := by
  cases h : s.err <;> simp [raiseError, h]

theorem raiseError_of_err {c : ErrorCode} (h : s.err = true) : raiseError c s = s := by simp [raiseError, h]

theorem raiseError_of_no_err {c : ErrorCode} (h : s.err = false) :
    raiseError c s = { s with err := true, errcode := errorNumber c } := by simp [raiseError, h]

theorem writeMsg_of_busy {i : Fin 16} {d : Word} (h : s.busy = true) : writeMsg i d s = raiseError .msgBusy s := by
  simp [writeMsg, h]

theorem writeMsg_of_idle {i : Fin 16} {d : Word} (h : s.busy = false) :
    writeMsg i d s = { s with msg := s.msg.set i.val d i.isLt, mvalid := setValid s.mvalid i.val } := by
  simp [writeMsg, h]

/-- Everything a checked BLOCK or FINAL can do: one of the errors, nothing in an errored session, or acceptance. -/
theorem checkedAccept_cases (need : BitVec 16) (overflow : Bool) (accept : State → State) (s : State) :
    (∃ c, checkedAccept need overflow accept s = raiseError c s) ∨
      (s.busy = false ∧ s.err = true ∧ checkedAccept need overflow accept s = s) ∨
      (s.busy = false ∧ s.err = false ∧ s.done = false ∧ haveWords s.mvalid need = true ∧ overflow = false ∧
        checkedAccept need overflow accept s = accept s) := by
  unfold checkedAccept
  split
  · exact .inl ⟨_, rfl⟩
  split
  · simp_all
  split
  · exact .inl ⟨_, rfl⟩
  split
  · exact .inl ⟨_, rfl⟩
  split
  · exact .inl ⟨_, rfl⟩
  · simp_all

theorem checkedAccept_accepts {need : BitVec 16} {overflow : Bool} {accept : State → State}
    (hb : s.busy = false) (he : s.err = false) (hd : s.done = false) (hw : haveWords s.mvalid need = true)
    (ho : overflow = false) : checkedAccept need overflow accept s = accept s := by
  simp [checkedAccept, hb, he, hd, hw, ho]

/-- Everything `CommandWrite` can do (43_commands.md R201). -/
theorem commandWrite_cases (v : Word) (s : State) :
    (∃ c, commandWrite v s = raiseError c s) ∨ commandWrite v s = s ∨
      (s.busy = false ∧ cmdWellFormed v = true ∧ cmdOp v = 1#8 ∧ commandWrite v s = initSession s) ∨
      (s.busy = false ∧ s.err = false ∧ s.done = false ∧ haveWords s.mvalid blockNeed = true ∧
        s.len ≠ lenLimit ∧ commandWrite v s = acceptBlock s) ∨
      (∃ n : BitVec 6, s.busy = false ∧ s.err = false ∧ s.done = false ∧
        haveWords s.mvalid (finalNeed n.toNat) = true ∧ commandWrite v s = acceptFinal n.toNat s) := by
  by_cases hwf : cmdWellFormed v = true
  swap
  · exact .inl ⟨.illegalCmd, by simp [commandWrite, hwf]⟩
  by_cases h0 : cmdOp v = 0#8
  · exact .inr (.inl (by simp [commandWrite, hwf, h0]))
  cases hb : s.busy
  swap
  · exact .inl ⟨.cmdBusy, by simp [commandWrite, hwf, h0, hb]⟩
  by_cases h1 : cmdOp v = 1#8
  · exact .inr (.inr (.inl ⟨rfl, hwf, h1, by simp [commandWrite, hwf, h1, hb]⟩))
  cases he : s.err
  swap
  · exact .inr (.inl (by simp [commandWrite, hwf, h0, h1, hb, he]))
  cases hd : s.done
  swap
  · exact .inl ⟨.sequence, by simp [commandWrite, hwf, h0, h1, hb, he, hd]⟩
  by_cases h2 : cmdOp v = 2#8
  · cases hw : haveWords s.mvalid blockNeed
    · exact .inl ⟨.incomplete, by simp [commandWrite, hwf, h2, hb, he, hd, hw]⟩
    by_cases hl : s.len = lenLimit
    · exact .inl ⟨.lenOverflow, by simp [commandWrite, hwf, h2, hb, he, hd, hw, hl]⟩
    · exact .inr (.inr (.inr (.inl ⟨rfl, rfl, rfl, rfl, hl, by simp [commandWrite, hwf, h2, hb, he, hd, hw, hl]⟩)))
  · cases hw : haveWords s.mvalid (finalNeed (cmdNbytes v).toNat)
    · exact .inl ⟨.incomplete, by simp [commandWrite, hwf, h0, h1, h2, hb, he, hd, hw]⟩
    · exact .inr (.inr (.inr (.inr ⟨cmdNbytes v, rfl, rfl, rfl, hw,
        by simp [commandWrite, hwf, h0, h1, h2, hb, he, hd, hw]⟩)))

end Sys2Proof.Laws
end

