-- ==== Sys2Proof/Laws/Engine.lean ====
section
/-! SUPPORT. Everything an engine turn can do, and everything a step can do. -/

namespace Sys2Proof.Laws

open Sys2Proof.Machine

variable {s t : State}

/-- If a turn of the engine answers a next state, one of these happened (42_engine.md R181 to R185). -/
theorem engineStep_cases (h : engineStep s = .next t) :
    (s.q = [] ∧ t = s) ∨
      (∃ b rest, s.q = b :: rest ∧ s.phase = .load ∧ t = engineLoad b s) ∨
      (s.q ≠ [] ∧ s.phase = .expand ∧ 16 ≤ s.j ∧ s.j ≤ 79 ∧ t = engineExpand s) ∨
      (s.q ≠ [] ∧ s.phase = .round ∧ s.t ≤ 79 ∧ t = engineRound s) ∨
      (∃ b rest, s.q = b :: rest ∧ s.phase = .accum ∧ t = engineAccum rest s) := by
  unfold engineStep at h
  split at h
  · rename_i hq
    cases h
    exact .inl ⟨hq, rfl⟩
  · rename_i b rest hq
    split at h
    · cases h
    · rename_i hp
      cases h
      exact .inr (.inl ⟨b, rest, hq, hp, rfl⟩)
    · rename_i hp
      split at h
      · rename_i hj
        cases h
        exact .inr (.inr (.inl ⟨by simp [hq], hp, hj.1, hj.2, rfl⟩))
      · cases h
    · rename_i hp
      split at h
      · rename_i ht
        cases h
        exact .inr (.inr (.inr (.inl ⟨by simp [hq], hp, ht, rfl⟩)))
      · cases h
    · rename_i hp
      cases h
      exact .inr (.inr (.inr (.inr ⟨b, rest, hq, hp, rfl⟩)))

theorem engineStep_of_empty (h : s.q = []) : engineStep s = .next s := by simp [engineStep, h]

theorem engineStep_load {b : Block} {rest : List Block} (hq : s.q = b :: rest) (hp : s.phase = .load) :
    engineStep s = .next (engineLoad b s) := by simp [engineStep, hq, hp]

theorem engineStep_expand (hq : s.q ≠ []) (hp : s.phase = .expand) (hj : 16 ≤ s.j ∧ s.j ≤ 79) :
    engineStep s = .next (engineExpand s) := by
  obtain ⟨b, rest, hb⟩ := List.exists_cons_of_ne_nil hq
  simp [engineStep, hb, hp, hj]

theorem engineStep_round (hq : s.q ≠ []) (hp : s.phase = .round) (ht : s.t ≤ 79) :
    engineStep s = .next (engineRound s) := by
  obtain ⟨b, rest, hb⟩ := List.exists_cons_of_ne_nil hq
  simp [engineStep, hb, hp, ht]

theorem engineStep_accum {b : Block} {rest : List Block} (hq : s.q = b :: rest) (hp : s.phase = .accum) :
    engineStep s = .next (engineAccum rest s) := by simp [engineStep, hq, hp]

/-- A turn of the engine never refuses. -/
theorem engineStep_not_refused (s : State) (r : Refusal) : engineStep s ≠ .refused r := by
  unfold engineStep
  repeat' split
  all_goals simp

@[simp] theorem step_of_no_input (h : s.inputs = []) : step s = engineStep s := by simp [step, h]

theorem step_of_request {r : Request} {rest : List Input} (h : s.inputs = .request r :: rest) :
    step s = exec (decodeRequest r) { s with inputs := rest } := by simp [step, h]

theorem step_of_engine {rest : List Input} (h : s.inputs = .engine :: rest) :
    step s = engineStep { s with inputs := rest } := by simp [step, h]

theorem step_of_reset {rest : List Input} (h : s.inputs = .reset :: rest) :
    step s = .next { State.reset with inputs := rest } := by simp [step, h]

/-- If a step answers a next state, one of these happened (20_memory.md R80). -/
theorem step_cases (h : step s = .next t) :
    (s.inputs = [] ∧ engineStep s = .next t) ∨
      (∃ r rest, s.inputs = .request r :: rest ∧ exec (decodeRequest r) { s with inputs := rest } = .next t) ∨
      (∃ rest, s.inputs = .engine :: rest ∧ engineStep { s with inputs := rest } = .next t) ∨
      (∃ rest, s.inputs = .reset :: rest ∧ t = { State.reset with inputs := rest }) := by
  unfold step at h
  split at h
  · exact .inl ⟨‹_›, h⟩
  · exact .inr (.inl ⟨_, _, ‹_›, h⟩)
  · exact .inr (.inr (.inl ⟨_, ‹_›, h⟩))
  · cases h
    exact .inr (.inr (.inr ⟨_, ‹_›, rfl⟩))

end Sys2Proof.Laws
end

