-- ==== Sys2Proof/Laws/Exec.lean ====
section
/-! SUPPORT. Everything a transaction can do to the state, said once for all instructions. -/

namespace Sys2Proof.Laws

open Sys2Proof.Machine

/-- The word `init` is the only well-formed command word with OP = 0x01. -/
theorem initWord_of_cmdOp {v : Word} (h : cmdWellFormed v = true) (ho : cmdOp v = 1#8) : v = 0x00000001#32 := by
  have h1 := cmdOp_toNat v
  have h2 := cmdRsvd_toNat v
  have h3 := cmdNbytes_toNat v
  simp [cmdWellFormed, ho] at h
  rw [h.1] at h2
  rw [h.2] at h3
  rw [ho] at h1
  apply BitVec.eq_of_toNat_eq
  simp at h1 h2 h3 ⊢
  omega

theorem cmdOp_cases {v : Word} (h : cmdWellFormed v = true) :
    cmdOp v = 0#8 ∨ cmdOp v = 1#8 ∨ cmdOp v = 2#8 ∨ cmdOp v = 3#8 := by
  have hle : (cmdOp v).toNat ≤ 3 := by
    simp only [cmdWellFormed, Bool.and_eq_true, decide_eq_true_eq] at h
    exact h.1.1
  have all : ∀ x : BitVec 8, x.toNat ≤ 3 → x = 0#8 ∨ x = 1#8 ∨ x = 2#8 ∨ x = 3#8 := by decide
  exact all _ hle

/-- What instruction `i` can make of state `s`, the response aside. -/
inductive Effect (i : Instr) (s : State) : State → Prop where
  /-- A read, NOP, a bus error, or a command an errored session ignores. -/
  | unchanged : Effect i s s
  /-- A refusal that records an error, or keeps the first one. -/
  | error (c : ErrorCode) : Effect i s (raiseError c s)
  /-- A MSG write while idle. -/
  | store (k : Fin 16) (d : Word) (hb : s.busy = false) :
      Effect i s { s with msg := s.msg.set k.val d k.isLt, mvalid := setValid s.mvalid k.val }
  /-- A write to IE. -/
  | enable (d : Word) : Effect i s (writeIe d s)
  /-- An accepted INIT. -/
  | session (hb : s.busy = false) (hi : i = .init ∨ i = .wrCmd 0x00000001#32) : Effect i s (initSession s)
  /-- An accepted BLOCK. -/
  | block (hb : s.busy = false) (he : s.err = false) (hd : s.done = false)
      (hw : haveWords s.mvalid blockNeed = true) (hl : s.len ≠ lenLimit)
      (hi : i = .block ∨ ∃ v, i = .wrCmd v ∧ decodeCmd v = .block) : Effect i s (acceptBlock s)
  /-- An accepted FINAL. -/
  | final (n : BitVec 6) (hb : s.busy = false) (he : s.err = false) (hd : s.done = false)
      (hw : haveWords s.mvalid (finalNeed n.toNat) = true)
      (hi : i = .final n ∨ ∃ v, i = .wrCmd v ∧ decodeCmd v = .final n) : Effect i s (acceptFinal n.toNat s)

theorem writeMsg_effect (i : Instr) (k : Fin 16) (d : Word) (s : State) : Effect i s (writeMsg k d s) := by
  cases hb : s.busy
  · rw [writeMsg_of_idle hb]
    exact .store k d hb
  · rw [writeMsg_of_busy hb]
    exact .error _

theorem checkedBlock_effect {i : Instr} {s : State}
    (hi : i = .block ∨ ∃ v, i = .wrCmd v ∧ decodeCmd v = .block) :
    Effect i s (checkedAccept blockNeed (s.len == lenLimit) acceptBlock s) := by
  rcases checkedAccept_cases blockNeed (s.len == lenLimit) acceptBlock s with ⟨c, e⟩ | ⟨_, _, e⟩ | ⟨h1, h2, h3, h4, h5, e⟩ <;>
    rw [e]
  · exact .error c
  · exact .unchanged
  · exact .block h1 h2 h3 h4 (by simpa using h5) hi

theorem checkedFinal_effect {i : Instr} {s : State} {n : BitVec 6}
    (hi : i = .final n ∨ ∃ v, i = .wrCmd v ∧ decodeCmd v = .final n) :
    Effect i s (checkedAccept (finalNeed n.toNat) false (acceptFinal n.toNat) s) := by
  rcases checkedAccept_cases (finalNeed n.toNat) false (acceptFinal n.toNat) s with ⟨c, e⟩ | ⟨_, _, e⟩ | ⟨h1, h2, h3, h4, _, e⟩ <;>
    rw [e]
  · exact .error c
  · exact .unchanged
  · exact .final n h1 h2 h3 h4 hi

theorem commandWrite_effect (v : Word) (s : State) : Effect (.wrCmd v) s (commandWrite v s) := by
  by_cases hwf : cmdWellFormed v = true
  swap
  · have e : commandWrite v s = raiseError .illegalCmd s := by simp [commandWrite, hwf]
    rw [e]
    exact .error _
  rcases cmdOp_cases hwf with ho | ho | ho | ho
  · have e : commandWrite v s = s := by simp [commandWrite, hwf, ho]
    rw [e]
    exact .unchanged
  · cases hb : s.busy
    · have e : commandWrite v s = initSession s := by simp [commandWrite, hwf, ho, hb]
      rw [e]
      exact .session hb (.inr (by rw [initWord_of_cmdOp hwf ho]))
    · have e : commandWrite v s = raiseError .cmdBusy s := by simp [commandWrite, hwf, ho, hb]
      rw [e]
      exact .error _
  · have e : commandWrite v s = checkedAccept blockNeed (s.len == lenLimit) acceptBlock s := by
      simp [commandWrite, checkedAccept, hwf, ho]
    rw [e]
    exact checkedBlock_effect (.inr ⟨v, rfl, by simp [decodeCmd, hwf, ho]⟩)
  · have e : commandWrite v s =
        checkedAccept (finalNeed (cmdNbytes v).toNat) false (acceptFinal (cmdNbytes v).toNat) s := by
      simp [commandWrite, checkedAccept, hwf, ho]
    rw [e]
    exact checkedFinal_effect (.inr ⟨v, rfl, by simp [decodeCmd, hwf, ho]⟩)

/-- Every instruction answers a next state: one of the effects, and a response. -/
theorem exec_effect (i : Instr) (s : State) :
    ∃ (u : State) (r : Response), Effect i s u ∧ exec i s = .next { u with rsp := some r } := by
  cases i
  case init =>
    cases hb : s.busy
    · exact ⟨_, _, .session hb (.inl rfl), by simp [exec, execInit, hb, answerWrite]; rfl⟩
    · exact ⟨_, _, .error .cmdBusy, by simp [exec, execInit, hb, answerWrite]; rfl⟩
  case block => exact ⟨_, _, checkedBlock_effect (.inl rfl), rfl⟩
  case final n => exact ⟨_, _, checkedFinal_effect (.inl rfl), rfl⟩
  case cmdIllegal w => exact ⟨_, _, .error .illegalCmd, rfl⟩
  case wrCmd v => exact ⟨_, _, commandWrite_effect v s, rfl⟩
  case wrIe d => exact ⟨_, _, .enable d, rfl⟩
  all_goals first
    | exact ⟨s, _, .unchanged, rfl⟩
    | exact ⟨_, _, writeMsg_effect _ _ _ s, rfl⟩

/-- If an instruction answers a next state, that state is one of its effects with a response. -/
theorem exec_cases {i : Instr} {s t : State} (h : exec i s = .next t) :
    ∃ (u : State) (r : Response), Effect i s u ∧ t = { u with rsp := some r } := by
  obtain ⟨u, r, he, hx⟩ := exec_effect i s
  rw [h] at hx
  exact ⟨u, r, he, by injection hx⟩

end Sys2Proof.Laws
end

