-- ==== Sys2Proof/Laws/PerInstr.lean ====
section
/-! SUPPORT. For every instruction: the word it is encoded as lies in its own row of spec/opcode_table.json, first of all
the rows of its format (30_encoding.md R103, R106). -/

namespace Sys2Proof.Laws.OwnRow

/-- The mnemonic of the table row that a transaction's word lies in. -/
def rowName : Request → Option String
  | .cmd word => firstRow cmdRows word.toNat
  | .bus word => firstRow busRows word.toNat

/-- A well-formed instruction is encoded in the table row of its mnemonic. -/
def Statement (i : Instr) : Prop := i.wellFormed = true → rowName (encode i) = some i.mnemonic

/-- A read's word is in the row of its offset. -/
theorem rowName_read (addr : BitVec 8) :
    rowName (.bus (busReadWord addr)) = firstRow busRows (addr.toNat * 2 ^ 32) := by
  rw [rowName, busReadWord_toNat]

/-- A write's word is in the row of its offset, whatever its data. -/
theorem rowName_write (addr : BitVec 8) (data : Word) :
    rowName (.bus (busWriteWord addr data)) = firstRow busRows ((256 + addr.toNat) * 2 ^ 32) := by
  have := addr.isLt
  have := data.isLt
  rw [rowName, busWriteWord_toNat, firstRow_busRows,
    show (2 ^ 40 + addr.toNat * 2 ^ 32 + data.toNat) / 2 ^ 32 % 512 = 256 + addr.toNat by omega]

/-- The row of a write, by name. -/
theorem rowName_write_eq (addr : BitVec 8) (name : String)
    (h : firstRow busRows ((256 + addr.toNat) * 2 ^ 32) = some name) (data : Word) :
    rowName (.bus (busWriteWord addr data)) = some name := (rowName_write addr data).trans h

/-- The word of FINAL n is in the row FINAL for every n. -/
theorem rowName_final : ∀ n : BitVec 6, rowName (.cmd (cmdWord 0x03#8 n)) = some "FINAL" := by decide +kernel

/-- An offset without a register is in the row RD_UNMAPPED for a read. -/
theorem rowName_rdUnmapped : ∀ addr : BitVec 8, registerOffset addr = false →
    firstRow busRows (addr.toNat * 2 ^ 32) = some "RD_UNMAPPED" := by decide +kernel

/-- An offset without a register is in the row WR_UNMAPPED for a write. -/
theorem rowName_wrUnmapped : ∀ addr : BitVec 8, registerOffset addr = false →
    firstRow busRows ((256 + addr.toNat) * 2 ^ 32) = some "WR_UNMAPPED" := by decide +kernel

/-- A word outside the four defined rows is in the row CMD_ILLEGAL. -/
theorem rowName_cmdIllegal (word : BitVec 32) (h : definedCommandWord word = false) :
    rowName (.cmd word) = some "CMD_ILLEGAL" := by
  simp only [definedCommandWord, Bool.or_eq_false_iff, beq_eq_false_iff_ne, ne_eq, ← BitVec.toNat_inj, BitVec.toNat_and] at h
  obtain ⟨⟨⟨h0, h1⟩, h2⟩, h3⟩ := h
  have all : word.toNat &&& 0xFFFFFFFF = word.toNat := by
    have := Nat.and_two_pow_sub_one_of_lt_two_pow word.isLt
    simpa using this
  simp only [BitVec.toNat_ofNat, Nat.reducePow, Nat.reduceMod] at h0 h1 h2 h3
  simp only [rowName, firstRow, cmdRows, TableRow.covers, List.find?, all, beq_eq_false_iff_ne.2 h0,
    beq_eq_false_iff_ne.2 h1, beq_eq_false_iff_ne.2 h2, beq_eq_false_iff_ne.2 h3, Nat.and_zero, beq_self_eq_true,
    Option.map_some]

theorem nop : Statement .nop := fun _ => by decide

theorem init : Statement .init := fun _ => by decide

theorem block : Statement .block := fun _ => by decide

theorem final (n : BitVec 6) : Statement (.final n) := fun _ => rowName_final n

theorem cmdIllegal (word : BitVec 32) : Statement (.cmdIllegal word) := fun h =>
  rowName_cmdIllegal word (by simpa [Instr.wellFormed] using h)

theorem rdId : Statement .rdId := fun _ => (rowName_read _).trans (by decide)

theorem rdCmd : Statement .rdCmd := fun _ => (rowName_read _).trans (by decide)

theorem rdStatus : Statement .rdStatus := fun _ => (rowName_read _).trans (by decide)

theorem rdIe : Statement .rdIe := fun _ => (rowName_read _).trans (by decide)

theorem rdMvalid : Statement .rdMvalid := fun _ => (rowName_read _).trans (by decide)

theorem rdLenLo : Statement .rdLenLo := fun _ => (rowName_read _).trans (by decide)

theorem rdLenHi : Statement .rdLenHi := fun _ => (rowName_read _).trans (by decide)

theorem rdMsg0 : Statement .rdMsg0 := fun _ => (rowName_read _).trans (by decide)

theorem rdMsg1 : Statement .rdMsg1 := fun _ => (rowName_read _).trans (by decide)

theorem rdMsg2 : Statement .rdMsg2 := fun _ => (rowName_read _).trans (by decide)

theorem rdMsg3 : Statement .rdMsg3 := fun _ => (rowName_read _).trans (by decide)

theorem rdMsg4 : Statement .rdMsg4 := fun _ => (rowName_read _).trans (by decide)

theorem rdMsg5 : Statement .rdMsg5 := fun _ => (rowName_read _).trans (by decide)

theorem rdMsg6 : Statement .rdMsg6 := fun _ => (rowName_read _).trans (by decide)

theorem rdMsg7 : Statement .rdMsg7 := fun _ => (rowName_read _).trans (by decide)

theorem rdMsg8 : Statement .rdMsg8 := fun _ => (rowName_read _).trans (by decide)

theorem rdMsg9 : Statement .rdMsg9 := fun _ => (rowName_read _).trans (by decide)

theorem rdMsg10 : Statement .rdMsg10 := fun _ => (rowName_read _).trans (by decide)

theorem rdMsg11 : Statement .rdMsg11 := fun _ => (rowName_read _).trans (by decide)

theorem rdMsg12 : Statement .rdMsg12 := fun _ => (rowName_read _).trans (by decide)

theorem rdMsg13 : Statement .rdMsg13 := fun _ => (rowName_read _).trans (by decide)

theorem rdMsg14 : Statement .rdMsg14 := fun _ => (rowName_read _).trans (by decide)

theorem rdMsg15 : Statement .rdMsg15 := fun _ => (rowName_read _).trans (by decide)

theorem rdDigest0 : Statement .rdDigest0 := fun _ => (rowName_read _).trans (by decide)

theorem rdDigest1 : Statement .rdDigest1 := fun _ => (rowName_read _).trans (by decide)

theorem rdDigest2 : Statement .rdDigest2 := fun _ => (rowName_read _).trans (by decide)

theorem rdDigest3 : Statement .rdDigest3 := fun _ => (rowName_read _).trans (by decide)

theorem rdDigest4 : Statement .rdDigest4 := fun _ => (rowName_read _).trans (by decide)

theorem wrCmd (data : Word) : Statement (.wrCmd data) := fun _ => rowName_write_eq 0x04#8 "WR_CMD" (by decide) data

theorem wrIe (data : Word) : Statement (.wrIe data) := fun _ => rowName_write_eq 0x0C#8 "WR_IE" (by decide) data

theorem wrMsg0 (data : Word) : Statement (.wrMsg0 data) := fun _ => rowName_write_eq 0x20#8 "WR_MSG0" (by decide) data

theorem wrMsg1 (data : Word) : Statement (.wrMsg1 data) := fun _ => rowName_write_eq 0x24#8 "WR_MSG1" (by decide) data

theorem wrMsg2 (data : Word) : Statement (.wrMsg2 data) := fun _ => rowName_write_eq 0x28#8 "WR_MSG2" (by decide) data

theorem wrMsg3 (data : Word) : Statement (.wrMsg3 data) := fun _ => rowName_write_eq 0x2C#8 "WR_MSG3" (by decide) data

theorem wrMsg4 (data : Word) : Statement (.wrMsg4 data) := fun _ => rowName_write_eq 0x30#8 "WR_MSG4" (by decide) data

theorem wrMsg5 (data : Word) : Statement (.wrMsg5 data) := fun _ => rowName_write_eq 0x34#8 "WR_MSG5" (by decide) data

theorem wrMsg6 (data : Word) : Statement (.wrMsg6 data) := fun _ => rowName_write_eq 0x38#8 "WR_MSG6" (by decide) data

theorem wrMsg7 (data : Word) : Statement (.wrMsg7 data) := fun _ => rowName_write_eq 0x3C#8 "WR_MSG7" (by decide) data

theorem wrMsg8 (data : Word) : Statement (.wrMsg8 data) := fun _ => rowName_write_eq 0x40#8 "WR_MSG8" (by decide) data

theorem wrMsg9 (data : Word) : Statement (.wrMsg9 data) := fun _ => rowName_write_eq 0x44#8 "WR_MSG9" (by decide) data

theorem wrMsg10 (data : Word) : Statement (.wrMsg10 data) := fun _ => rowName_write_eq 0x48#8 "WR_MSG10" (by decide) data

theorem wrMsg11 (data : Word) : Statement (.wrMsg11 data) := fun _ => rowName_write_eq 0x4C#8 "WR_MSG11" (by decide) data

theorem wrMsg12 (data : Word) : Statement (.wrMsg12 data) := fun _ => rowName_write_eq 0x50#8 "WR_MSG12" (by decide) data

theorem wrMsg13 (data : Word) : Statement (.wrMsg13 data) := fun _ => rowName_write_eq 0x54#8 "WR_MSG13" (by decide) data

theorem wrMsg14 (data : Word) : Statement (.wrMsg14 data) := fun _ => rowName_write_eq 0x58#8 "WR_MSG14" (by decide) data

theorem wrMsg15 (data : Word) : Statement (.wrMsg15 data) := fun _ => rowName_write_eq 0x5C#8 "WR_MSG15" (by decide) data

theorem wrRoId (data : Word) : Statement (.wrRoId data) := fun _ => rowName_write_eq 0x00#8 "WR_RO_ID" (by decide) data

theorem wrRoStatus (data : Word) : Statement (.wrRoStatus data) := fun _ => rowName_write_eq 0x08#8 "WR_RO_STATUS" (by decide) data

theorem wrRoMvalid (data : Word) : Statement (.wrRoMvalid data) := fun _ => rowName_write_eq 0x10#8 "WR_RO_MVALID" (by decide) data

theorem wrRoLenLo (data : Word) : Statement (.wrRoLenLo data) := fun _ => rowName_write_eq 0x14#8 "WR_RO_LEN_LO" (by decide) data

theorem wrRoLenHi (data : Word) : Statement (.wrRoLenHi data) := fun _ => rowName_write_eq 0x18#8 "WR_RO_LEN_HI" (by decide) data

theorem wrRoDigest0 (data : Word) : Statement (.wrRoDigest0 data) := fun _ => rowName_write_eq 0x60#8 "WR_RO_DIGEST0" (by decide) data

theorem wrRoDigest1 (data : Word) : Statement (.wrRoDigest1 data) := fun _ => rowName_write_eq 0x64#8 "WR_RO_DIGEST1" (by decide) data

theorem wrRoDigest2 (data : Word) : Statement (.wrRoDigest2 data) := fun _ => rowName_write_eq 0x68#8 "WR_RO_DIGEST2" (by decide) data

theorem wrRoDigest3 (data : Word) : Statement (.wrRoDigest3 data) := fun _ => rowName_write_eq 0x6C#8 "WR_RO_DIGEST3" (by decide) data

theorem wrRoDigest4 (data : Word) : Statement (.wrRoDigest4 data) := fun _ => rowName_write_eq 0x70#8 "WR_RO_DIGEST4" (by decide) data

theorem rdUnmapped (addr : BitVec 8) : Statement (.rdUnmapped addr) := fun h =>
  (rowName_read addr).trans (rowName_rdUnmapped addr (by simpa [Instr.wellFormed] using h))

theorem wrUnmapped (addr : BitVec 8) (data : Word) : Statement (.wrUnmapped addr data) := fun h =>
  (rowName_write addr data).trans (rowName_wrUnmapped addr (by simpa [Instr.wellFormed] using h))

end Sys2Proof.Laws.OwnRow
end

