-- ==== Sys2Proof/Laws/Sha1.lean ====
section
/-! SUPPORT. The rotation, single schedule entries after a load and after an expansion, and the unfolding of a run of
engine turns at its end. -/

namespace Sys2Proof.Laws

open Sys2Proof.Machine

/-- Below the word's width `rotl` is the library's rotation. -/
theorem rotl_eq_rotateLeft {x : Word} {n : Nat} (h : n < 32) : rotl x n = x.rotateLeft n := by
  unfold rotl
  split
  · rename_i hn
    subst hn
    apply BitVec.eq_of_getLsbD_eq
    intro i hi
    simp [BitVec.rotateLeft, BitVec.rotateLeftAux]
  · rw [BitVec.rotateLeft_def, Nat.mod_eq_of_lt h]

/-- An expansion writes entry j and no other. -/
theorem schedWord_expandAt {w : Sched} {j : Nat} (i : Nat) (hj : j < 80) :
    schedWord (expandAt j w) i = if i = j then expandedWord w j else schedWord w i := by
  unfold schedWord expandAt
  by_cases h : i = j
  · subst h
    simp [hj]
  · simp [h, Ne.symm h]

/-- A load puts the block's words into the first sixteen entries. -/
theorem schedWord_loadSchedule {b : Block} {w : Sched} {i : Nat} (h : i < 16) :
    schedWord (loadSchedule b w) i = b[i] := by
  simp [schedWord, loadSchedule, h, show i < 80 by omega]

/-- A load keeps the other entries. -/
theorem schedWord_loadSchedule_of_ge {b : Block} {w : Sched} {i : Nat} (h : 16 ≤ i) (hi : i < 80) :
    schedWord (loadSchedule b w) i = schedWord w i := by
  simp [schedWord, loadSchedule, hi, show ¬i < 16 by omega]

/-- Two schedules with the same entries are the same. -/
theorem sched_ext {w w' : Sched} (h : ∀ i, i < 80 → schedWord w i = schedWord w' i) : w = w' := by
  apply Vector.ext
  intro i hi
  have := h i hi
  simpa [schedWord, hi] using this

/-- One more turn is taken at the end of a run. -/
theorem engineTurns_succ {n : Nat} {s t : State} (h : engineTurns n s = .next t) :
    engineTurns (n + 1) s = engineStep t := by
  induction n generalizing s with
  | zero =>
    simp only [engineTurns] at h ⊢
    cases h
    split <;> simp_all
  | succ n ih =>
    rw [engineTurns] at h ⊢
    cases hs : engineStep s with
    | next u =>
      simp only [hs] at h ⊢
      exact ih h
    | fault f => simp [hs] at h
    | refused r => simp [hs] at h

end Sys2Proof.Laws
end

