-- ==== Sys2Proof/Tests/Slice0.lean ====
section
/-! SUPPORT. Tests: ill-formed terms refused, decoding of words written out from 30_encoding.md, the vectors of
95_test_vectors.md, and for every statement with hypotheses a witness that meets them. Every expected value is the
spec's. -/

namespace Sys2Proof.Tests

open Sys2Proof.Machine Sys2Proof.Laws

-- One theorem after another: each `decide +kernel` that runs at the same time holds a thread of its own.
set_option Elab.async false

/-! ### Helpers -/

/-- The outcome is a next state that passes the check. -/
def nextIs (o : Result) (p : State → Bool) : Bool :=
  match o with
  | .next t => p t
  | .fault _ => false
  | .refused _ => false

theorem exists_of_nextIs {o : Result} {p : State → Bool} (h : nextIs o p = true) : ∃ t, o = .next t ∧ p t = true := by
  unfold nextIs at h
  split at h
  · exact ⟨_, rfl, h⟩
  · cases h
  · cases h

/-- The response is a read's, with OKAY. -/
def reads (s : State) (data : Word) : Bool := s.rsp == some (.read data .okay)

/-- 64 bytes 'a'. -/
def aBlock : Block := Vector.replicate 16 0x61616161#32

/-- "abc", the other words zero. -/
def abcBlock : Block := Vector.ofFn (fun i => if i.val = 0 then 0x61626300#32 else 0#32)

/-- After `init` and `ldmsg` of 64 bytes 'a'. -/
def loaded : State := { State.reset with msg := aBlock, mvalid := 0xFFFF#16 }

/-- After `init` and `wr MSG0, 0x61626300`. -/
def abcLoaded : State := { State.reset with msg := abcBlock, mvalid := 0x0001#16 }

/-- A BLOCK of 64 bytes 'a' accepted, the engine not yet run. -/
def running : State :=
  { State.reset with msg := aBlock, q := [aBlock], len := 512#64, busy := true, phase := .load }

/-- "abc" done (95_test_vectors.md P1, end state). -/
def abcDone : State :=
  { State.reset with
    msg := abcBlock
    h := ⟨0xA9993E36#32, 0x4706816A#32, 0xBA3E2571#32, 0x7850C26C#32, 0x9CD0D89D#32⟩
    len := 24#64
    done := true }

/-- An INCOMPLETE error, then all MSG words written (V-C21). -/
def errored : State := { loaded with err := true, errcode := 4#4 }

/-- The last step of a FINAL's one block. -/
def finishing : State :=
  { State.reset with q := [abcBlock], fin := true, busy := true, phase := .accum, t := 80, j := 80 }

/-! ### Well-formedness: each check refuses an ill-formed term -/

theorem test_wellFormed_cmdIllegal_refuses_defined_words :
    (Instr.cmdIllegal 0x00000000#32).wellFormed = false ∧ (Instr.cmdIllegal 0x00000001#32).wellFormed = false ∧
      (Instr.cmdIllegal 0x00000002#32).wellFormed = false ∧ (Instr.cmdIllegal 0x00003F03#32).wellFormed = false := by
  decide +kernel

theorem test_wellFormed_unmapped_refuses_registers :
    (Instr.rdUnmapped 0x20#8).wellFormed = false ∧ (Instr.rdUnmapped 0x70#8).wellFormed = false ∧
      (Instr.wrUnmapped 0x04#8 0#32).wellFormed = false ∧ (Instr.wrUnmapped 0x18#8 0#32).wellFormed = false := by
  decide +kernel

theorem test_wellFormed_accepts :
    (Instr.cmdIllegal 0x00000004#32).wellFormed = true ∧ (Instr.rdUnmapped 0x1C#8).wellFormed = true ∧
      (Instr.wrUnmapped 0x74#8 0#32).wellFormed = true ∧ (Instr.final 63#6).wellFormed = true := by decide +kernel

/-! ### Decoding: words written out from 30_encoding.md R101 to R103 and R106 -/

theorem test_decode_commands :
    decodeTableWord 32 0x00000000 = some .nop ∧ decodeTableWord 32 0x00000001 = some .init ∧
      decodeTableWord 32 0x00000002 = some .block ∧ decodeTableWord 32 0x00000003 = some (.final 0#6) ∧
      decodeTableWord 32 0x00003803 = some (.final 56#6) := by decide +kernel

theorem test_decode_illegal_commands :
    decodeTableWord 32 0x00000004 = some (.cmdIllegal 0x00000004#32) ∧
      decodeTableWord 32 0x000000FF = some (.cmdIllegal 0x000000FF#32) ∧
      decodeTableWord 32 0x00000100 = some (.cmdIllegal 0x00000100#32) ∧
      decodeTableWord 32 0x00000102 = some (.cmdIllegal 0x00000102#32) ∧
      decodeTableWord 32 0x80000001 = some (.cmdIllegal 0x80000001#32) := by decide +kernel

theorem test_decode_reads :
    decodeTableWord 41 0x00000000000 = some .rdId ∧
      decodeTableWord 41 0x00400000000 = some .rdCmd ∧
      decodeTableWord 41 0x00800000000 = some .rdStatus ∧
      decodeTableWord 41 0x00C00000000 = some .rdIe ∧
      decodeTableWord 41 0x01000000000 = some .rdMvalid ∧
      decodeTableWord 41 0x01400000000 = some .rdLenLo ∧
      decodeTableWord 41 0x01800000000 = some .rdLenHi ∧
      decodeTableWord 41 0x06000000000 = some .rdDigest0 ∧
      decodeTableWord 41 0x06400000000 = some .rdDigest1 ∧
      decodeTableWord 41 0x06800000000 = some .rdDigest2 ∧
      decodeTableWord 41 0x06C00000000 = some .rdDigest3 ∧
      decodeTableWord 41 0x07000000000 = some .rdDigest4 := by decide +kernel

theorem test_decode_message_reads :
    decodeTableWord 41 0x02000000000 = some .rdMsg0 ∧
      decodeTableWord 41 0x02400000000 = some .rdMsg1 ∧
      decodeTableWord 41 0x02800000000 = some .rdMsg2 ∧
      decodeTableWord 41 0x02C00000000 = some .rdMsg3 ∧
      decodeTableWord 41 0x03000000000 = some .rdMsg4 ∧
      decodeTableWord 41 0x03400000000 = some .rdMsg5 ∧
      decodeTableWord 41 0x03800000000 = some .rdMsg6 ∧
      decodeTableWord 41 0x03C00000000 = some .rdMsg7 ∧
      decodeTableWord 41 0x04000000000 = some .rdMsg8 ∧
      decodeTableWord 41 0x04400000000 = some .rdMsg9 ∧
      decodeTableWord 41 0x04800000000 = some .rdMsg10 ∧
      decodeTableWord 41 0x04C00000000 = some .rdMsg11 ∧
      decodeTableWord 41 0x05000000000 = some .rdMsg12 ∧
      decodeTableWord 41 0x05400000000 = some .rdMsg13 ∧
      decodeTableWord 41 0x05800000000 = some .rdMsg14 ∧
      decodeTableWord 41 0x05C00000000 = some .rdMsg15 := by decide +kernel

theorem test_decode_writes :
    decodeTableWord 41 0x10400000303 = some (.wrCmd 0x00000303#32) ∧
      decodeTableWord 41 0x10CFFFFFFFF = some (.wrIe 0xFFFFFFFF#32) := by decide +kernel

theorem test_decode_message_writes :
    decodeTableWord 41 0x120DEADBEEF = some (.wrMsg0 0xDEADBEEF#32) ∧
      decodeTableWord 41 0x124DEADBEEF = some (.wrMsg1 0xDEADBEEF#32) ∧
      decodeTableWord 41 0x128DEADBEEF = some (.wrMsg2 0xDEADBEEF#32) ∧
      decodeTableWord 41 0x12CDEADBEEF = some (.wrMsg3 0xDEADBEEF#32) ∧
      decodeTableWord 41 0x130DEADBEEF = some (.wrMsg4 0xDEADBEEF#32) ∧
      decodeTableWord 41 0x134DEADBEEF = some (.wrMsg5 0xDEADBEEF#32) ∧
      decodeTableWord 41 0x138DEADBEEF = some (.wrMsg6 0xDEADBEEF#32) ∧
      decodeTableWord 41 0x13CDEADBEEF = some (.wrMsg7 0xDEADBEEF#32) ∧
      decodeTableWord 41 0x140DEADBEEF = some (.wrMsg8 0xDEADBEEF#32) ∧
      decodeTableWord 41 0x144DEADBEEF = some (.wrMsg9 0xDEADBEEF#32) ∧
      decodeTableWord 41 0x148DEADBEEF = some (.wrMsg10 0xDEADBEEF#32) ∧
      decodeTableWord 41 0x14CDEADBEEF = some (.wrMsg11 0xDEADBEEF#32) ∧
      decodeTableWord 41 0x150DEADBEEF = some (.wrMsg12 0xDEADBEEF#32) ∧
      decodeTableWord 41 0x154DEADBEEF = some (.wrMsg13 0xDEADBEEF#32) ∧
      decodeTableWord 41 0x158DEADBEEF = some (.wrMsg14 0xDEADBEEF#32) ∧
      decodeTableWord 41 0x15CDEADBEEF = some (.wrMsg15 0xDEADBEEF#32) := by decide +kernel

theorem test_decode_read_only_writes :
    decodeTableWord 41 0x10000000004 = some (.wrRoId 0x00000004#32) ∧
      decodeTableWord 41 0x10800000004 = some (.wrRoStatus 0x00000004#32) ∧
      decodeTableWord 41 0x11000000004 = some (.wrRoMvalid 0x00000004#32) ∧
      decodeTableWord 41 0x11400000004 = some (.wrRoLenLo 0x00000004#32) ∧
      decodeTableWord 41 0x11800000004 = some (.wrRoLenHi 0x00000004#32) ∧
      decodeTableWord 41 0x16000000004 = some (.wrRoDigest0 0x00000004#32) ∧
      decodeTableWord 41 0x16400000004 = some (.wrRoDigest1 0x00000004#32) ∧
      decodeTableWord 41 0x16800000004 = some (.wrRoDigest2 0x00000004#32) ∧
      decodeTableWord 41 0x16C00000004 = some (.wrRoDigest3 0x00000004#32) ∧
      decodeTableWord 41 0x17000000004 = some (.wrRoDigest4 0x00000004#32) := by decide +kernel

theorem test_decode_unmapped :
    decodeTableWord 41 0x00100000000 = some (.rdUnmapped 0x01#8) ∧
      decodeTableWord 41 0x01C00000000 = some (.rdUnmapped 0x1C#8) ∧
      decodeTableWord 41 0x07400000000 = some (.rdUnmapped 0x74#8) ∧
      decodeTableWord 41 0x0FC00000000 = some (.rdUnmapped 0xFC#8) ∧
      decodeTableWord 41 0x12212345678 = some (.wrUnmapped 0x22#8 0x12345678#32) ∧
      decodeTableWord 41 0x11C00000001 = some (.wrUnmapped 0x1C#8 0x00000001#32) := by decide +kernel

/-- DATA is ignored on a read (30_encoding.md R101). -/
theorem test_decode_read_ignores_data : decodeTableWord 41 0x008FFFFFFFF = some .rdStatus := by decide +kernel

theorem test_decode_rejects_by_name :
    decode [] = .rejected (.badLength 0) ∧ decode [0#8, 0#8, 0#8] = .rejected (.badLength 3) ∧
      decode [0#8, 0#8, 0#8, 0#8, 0#8, 2#8] = .rejected .bitAboveBusWord := by decide +kernel

/-! ### Integers, bytes and padding (95_test_vectors.md V-I, V-P) -/

theorem test_rotl :
    rotl 0x80000000#32 1 = 0x00000001#32 ∧ rotl 0x12345678#32 5 = 0x468ACF02#32 ∧
      rotl 0x12345678#32 30 = 0x048D159E#32 ∧ rotl 0x12345678#32 0 = 0x12345678#32 := by decide +kernel

theorem test_zeroFill :
    zeroFill 0 = 55 ∧ zeroFill 54 = 1 ∧ zeroFill 55 = 0 ∧ zeroFill 56 = 63 ∧ zeroFill 63 = 56 ∧ zeroFill 64 = 55 ∧
      zeroFill 119 = 0 ∧ zeroFill 120 = 63 := by decide +kernel

/-- V-P2. -/
theorem test_pad_abc : pad [0x61#8, 0x62#8, 0x63#8] =
    some ([0x61#8, 0x62#8, 0x63#8, 0x80#8] ++ zeros 59 ++ [0x18#8]) := by decide +kernel

/-- V-P3: "a" x 55, no zero byte before the length. -/
theorem test_pad_55 : pad (List.replicate 55 0x61#8) =
    some (List.replicate 55 0x61#8 ++ [0x80#8] ++ zeros 6 ++ [0x01#8, 0xB8#8]) := by decide +kernel

/-- V-P6: the byte at index n and above is ignored. -/
theorem test_chunk : chunk (Vector.replicate 16 0x61626364#32) 3 = [0x61#8, 0x62#8, 0x63#8] := by decide +kernel

/-! ### Compression (95_test_vectors.md V-F, V-K, schedule, round, digests) -/

theorem test_roundF :
    roundF 0 0xFFFFFFFF#32 0x12345678#32 0x9ABCDEF0#32 = 0x12345678#32 ∧
      roundF 19 0x00000000#32 0x12345678#32 0x9ABCDEF0#32 = 0x9ABCDEF0#32 ∧
      roundF 39 0xFFFFFFFF#32 0x12345678#32 0x9ABCDEF0#32 = 0x77777777#32 ∧
      roundF 40 0xF0F0F0F0#32 0xFF00FF00#32 0x0FF00FF0#32 = 0xFFF0FFF0#32 ∧
      roundF 60 0x00000000#32 0x12345678#32 0x9ABCDEF0#32 = 0x88888888#32 := by decide +kernel

theorem test_roundK :
    roundK 0 = 0x5A827999#32 ∧ roundK 19 = 0x5A827999#32 ∧ roundK 20 = 0x6ED9EBA1#32 ∧ roundK 39 = 0x6ED9EBA1#32 ∧
      roundK 40 = 0x8F1BBCDC#32 ∧ roundK 59 = 0x8F1BBCDC#32 ∧ roundK 60 = 0xCA62C1D6#32 ∧ roundK 79 = 0xCA62C1D6#32 := by
  decide +kernel

/-- The block of `Pad("abc")` (V-P2). -/
def abcTail : Block :=
  Vector.ofFn (fun i => if i.val = 0 then 0x61626380#32 else if i.val = 15 then 0x00000018#32 else 0#32)

theorem test_schedule :
    schedWord (schedule abcTail) 16 = 0xC2C4C700#32 ∧ schedWord (schedule abcTail) 19 = 0x85898E01#32 ∧
      schedWord (schedule abcTail) 79 = 0x822E0879#32 := by decide +kernel

theorem test_round : Machine.round 0 iv 0x61626380#32 =
    ⟨0x0116FC33#32, 0x67452301#32, 0x7BF36AE2#32, 0x98BADCFE#32, 0x10325476#32⟩ := by decide +kernel

theorem test_compress : compress iv aBlock =
    ⟨0xDA4968EB#32, 0x2E377C1F#32, 0x884E8F52#32, 0x83524BEB#32, 0xE74EBDBD#32⟩ := by decide +kernel

/-- V-D3, "test". -/
theorem test_sha1 : sha1 [0x74#8, 0x65#8, 0x73#8, 0x74#8] = some
    [0xa9#8, 0x4a#8, 0x8f#8, 0xe5#8, 0xcc#8, 0xb1#8, 0x9b#8, 0xa6#8, 0x1c#8, 0x4c#8,
      0x08#8, 0x73#8, 0xd3#8, 0x91#8, 0xe9#8, 0x87#8, 0x98#8, 0x2f#8, 0xbb#8, 0xd3#8] := by decide +kernel

/-- V-D8, "a" x 56: two blocks. -/
theorem test_sha1_two_blocks : sha1 (List.replicate 56 0x61#8) = some
    [0xc2#8, 0xdb#8, 0x33#8, 0x0f#8, 0x60#8, 0x83#8, 0x85#8, 0x4c#8, 0x99#8, 0xd4#8,
      0xb5#8, 0xbf#8, 0xb6#8, 0xe8#8, 0xf2#8, 0x9f#8, 0x20#8, 0x1b#8, 0xe6#8, 0x99#8] := by decide +kernel

/-! ### Transactions (95_test_vectors.md V-C, V-R, V-Q) -/

/-- V-R1. -/
theorem test_rdId :
    nextIs (exec .rdId State.reset) (fun t => reads t 0x53484131#32) = true := by decide +kernel

/-- V-R2. -/
theorem test_rdCmd :
    nextIs (exec .rdCmd State.reset) (fun t => reads t 0#32) = true := by decide +kernel

/-- V-R3. -/
theorem test_rdStatus_reset :
    nextIs (exec .rdStatus State.reset) (fun t => reads t 0#32) = true := by decide +kernel

/-- P5, row 19. -/
theorem test_rdStatus_errored :
    nextIs (exec .rdStatus errored) (fun t => reads t 0x00000044#32) = true := by decide +kernel

/-- V-R10, then `rd IE`. -/
theorem test_rdIe :
    nextIs (exec .rdIe { State.reset with ie := 7#3 }) (fun t => reads t 7#32) = true := by decide +kernel

/-- P1, row 4. -/
theorem test_rdMvalid :
    nextIs (exec .rdMvalid abcLoaded) (fun t => reads t 1#32) = true := by decide +kernel

/-- P1, row 13. -/
theorem test_rdLenLo :
    nextIs (exec .rdLenLo abcDone) (fun t => reads t 0x18#32) = true := by decide +kernel

/-- V-C24, LEN = 2^64 - 512. -/
theorem test_rdLenHi :
    nextIs (exec .rdLenHi { State.reset with len := 0xFFFFFFFFFFFFFE00#64 }) (fun t => reads t 0xFFFFFFFF#32) = true := by decide +kernel

/-- P6, row 8. -/
theorem test_rdMsg0 :
    nextIs (exec .rdMsg0 abcDone) (fun t => reads t 0x61626300#32) = true := by decide +kernel

/-- V-R8. -/
theorem test_rdDigest0_gated :
    nextIs (exec .rdDigest0 { abcDone with done := false }) (fun t => reads t 0#32) = true := by decide +kernel

/-- V-R9. -/
theorem test_rdDigest4 :
    nextIs (exec .rdDigest4 abcDone) (fun t => reads t 0x9CD0D89D#32) = true := by decide +kernel

/-- V-R5. -/
theorem test_rdUnmapped :
    nextIs (exec (.rdUnmapped 0x1C#8) abcDone) (fun t => t.rsp == some (.read 0#32 .error)) = true := by decide +kernel

/-- V-R10. -/
theorem test_wrIe :
    nextIs (exec (.wrIe 0xFFFFFFFF#32) State.reset) (fun t => t.ie == 7#3 && t.irq) = true := by decide +kernel

/-- V-R16. -/
theorem test_wrMsg3 :
    nextIs (exec (.wrMsg3 0xDEADBEEF#32) State.reset) (fun t => t.msg[3] == 0xDEADBEEF#32 && t.mvalid == 0x0008#16) = true := by decide +kernel

/-- V-R17. -/
theorem test_wrMsg15 :
    nextIs (exec (.wrMsg15 0x00000018#32) State.reset) (fun t => t.msg[15] == 0x18#32 && t.mvalid == 0x8000#16) = true := by decide +kernel

/-- V-C26: refused, MSG0 unchanged. -/
theorem test_wrMsg0_busy :
    nextIs (exec (.wrMsg0 0x00000000#32) running) (fun t => t.status == 0x25#32 && t.msg == aBlock && t.mvalid == 0#16) = true := by decide +kernel

/-- V-R11. -/
theorem test_wrRoStatus :
    nextIs (exec (.wrRoStatus 0x00000004#32) State.reset) (fun t => t.rsp == some (.write .error) && t.status == 0#32) = true := by decide +kernel

/-- V-R13. -/
theorem test_wrRoDigest0 :
    nextIs (exec (.wrRoDigest0 0x00000000#32) abcDone) (fun t => t.rsp == some (.write .error) && t.h == abcDone.h) = true := by decide +kernel

/-- V-R14. -/
theorem test_wrUnmapped :
    nextIs (exec (.wrUnmapped 0x22#8 0x12345678#32) State.reset) (fun t => t.rsp == some (.write .error) && t.msg == State.reset.msg) = true := by decide +kernel

/-- V-C23: INIT clears the error. -/
theorem test_init :
    nextIs (exec .init errored) (fun t => t.status == 0#32 && t.mvalid == 0#16 && t.msg == aBlock) = true := by decide +kernel

/-- V-C16: INIT does not abort. -/
theorem test_init_busy :
    nextIs (exec .init running) (fun t => t.status == 0x15#32 && t.q == [aBlock]) = true := by decide +kernel

/-- V-C17. -/
theorem test_nop_busy :
    nextIs (exec .nop running) (fun t => t.status == 1#32 && t.rsp == some (.write .okay)) = true := by decide +kernel

/-- V-C5. -/
theorem test_block :
    nextIs (exec .block loaded) (fun t => t.status == 1#32 && t.len == 512#64 && t.mvalid == 0#16 && t.q == [aBlock]) = true := by decide +kernel

/-- V-C4: MSG15 is missing. -/
theorem test_block_incomplete :
    nextIs (exec .block { loaded with mvalid := 0x7FFF#16 }) (fun t => t.status == 0x44#32 && t.mvalid == 0x7FFF#16) = true := by decide +kernel

/-- V-C24. -/
theorem test_block_overflow :
    nextIs (exec (.wrCmd 0x00000002#32) { loaded with len := 0xFFFFFFFFFFFFFE00#64 }) (fun t => t.status == 0x64#32 && t.len == 0xFFFFFFFFFFFFFE00#64) = true := by decide +kernel

/-- V-P5.2: one tail block. -/
theorem test_final :
    nextIs (exec (.final 3#6) abcLoaded) (fun t => t.q == [abcTail] && t.len == 24#64 && t.fin) = true := by decide +kernel

/-- V-C25: no length check. -/
theorem test_final_63 :
    nextIs (exec (.final 63#6) { loaded with len := 0xFFFFFFFFFFFFFE00#64 }) (fun t => t.status == 1#32 && t.len == 0xFFFFFFFFFFFFFFF8#64 && t.q.length == 2) = true := by decide +kernel

/-- V-C6: FINAL 5 needs MSG0 and MSG1. -/
theorem test_wrCmd_final_incomplete :
    nextIs (exec (.wrCmd 0x00000503#32) abcLoaded) (fun t => t.status == 0x44#32 && t.mvalid == 1#16) = true := by decide +kernel

/-- V-C18: ILLEGAL_CMD comes before CMD_BUSY. -/
theorem test_cmdIllegal_busy :
    nextIs (exec (.cmdIllegal 0x00000004#32) running) (fun t => t.status == 0x35#32) = true := by decide +kernel

/-- R262: the first error is kept. -/
theorem test_cmdIllegal_keeps_first_error :
    nextIs (exec (.cmdIllegal 0x00000004#32) errored) (fun t => t.status == 0x44#32) = true := by decide +kernel

/-- V-Q2, V-Q3, V-Q4, V-Q6. -/
theorem test_irq :
    { State.reset with ie := 4#3 }.irq = true ∧ { running with ie := 4#3 }.irq = false ∧
      { abcDone with ie := 1#3 }.irq = true ∧ { errored with ie := 2#3 }.irq = true ∧ abcDone.irq = false := by decide +kernel

/-! ### Steps -/

/-- V-R1 through a step. -/
theorem test_step_runs_the_fetched_word :
    nextIs (step (State.reset.withFetchWord 41 0x00000000000)) (fun t => reads t 0x53484131#32 && t.inputs == []) = true := by decide +kernel

/-- `final 0` through a step (V-C8). -/
theorem test_step_fetched_command :
    nextIs (step (State.reset.withFetchWord 32 0x00000003)) (fun t => t.status == 1#32 && t.phase == .load) = true := by decide +kernel

/-- The engine's ROUND 0 of Pad("abc"). -/
theorem test_engine_round :
    nextIs (engineStep { State.reset with q := [abcTail], busy := true, phase := .round, w := schedule abcTail, wv := iv }) (fun t => t.wv == ⟨0x0116FC33#32, 0x67452301#32, 0x7BF36AE2#32, 0x98BADCFE#32, 0x10325476#32⟩ && t.t == 1) = true := by decide +kernel

/-- V-C5: the engine runs the BLOCK to its end. -/
theorem test_engine_finishes_block :
    nextIs (engineTurns 146 running) (fun t => t.status == 0#32 && t.h == ⟨0xDA4968EB#32, 0x2E377C1F#32, 0x884E8F52#32, 0x83524BEB#32, 0xE74EBDBD#32⟩) = true := by decide +kernel

/-- A reset pulse ends work in progress (70_reset_and_hazards.md R292). -/
theorem test_reset_pulse :
    nextIs (step { running with inputs := [.reset] }) (fun t => t == State.reset) = true := by decide +kernel

/-- Two instances: the transaction reaches the one at 0x0200, at offset 0x08 (20_memory.md R74). -/
theorem test_platform :
    platformAccess (.read 0x0208) (platformReset [1, 2]) =
      [⟨1, State.reset⟩, ⟨2, { State.reset with inputs := [.request (.bus 0x00800000000#41)] }⟩] := by decide +kernel

/-! ### Witnesses: a concrete state and operands for every statement's hypotheses -/

theorem stateInv_reset : StateInv State.reset := by
  constructor <;> decide +kernel

theorem stateInv_running : StateInv running := by
  constructor <;> decide +kernel

/-- A state of the invariant in which a FINAL's last block is about to be finished. -/
theorem stateInv_finishing : StateInv finishing := by
  constructor <;> decide +kernel

theorem witness_DecodeOfEncodeIsTheInstruction :
    (Instr.cmdIllegal 0xFFFFFFFF#32).wellFormed = true ∧ (Instr.final 63#6).wellFormed = true ∧
      (Instr.rdUnmapped 0xFF#8).wellFormed = true ∧ (Instr.wrMsg15 0xFFFFFFFF#32).wellFormed = true := by decide +kernel

theorem witness_EveryTransactionReadsAsOneInstruction :
    busWr 0x12061626300#41 = true ∧ busWr 0x00800000000#41 = false := by decide +kernel

theorem witness_CommandWordIsWellFormedOrIllegal :
    cmdWellFormed 0x00003F03#32 = true ∧ cmdWellFormed 0x00000102#32 = false := by decide +kernel

theorem witness_StepRunsTheDecodedInstruction :
    ((Instr.final 3#6).wellFormed = true ∧
        ({ abcLoaded with inputs := [.request (encode (.final 3#6)), .engine] } : State).inputs =
          .request (encode (.final 3#6)) :: [.engine]) ∧
      decodeTableWord 41 0x00800000000 = some .rdStatus ∧
      ({ running with inputs := [.engine] } : State).inputs = .engine :: [] ∧ running.inputs = [] := by decide +kernel

theorem witness_NothingStopsTheBlock : StateInv running ∧ nextIs (step running) (fun t => t.phase == .expand) = true :=
  ⟨stateInv_running, by decide +kernel⟩

theorem witness_WrMsgStoresTheWordWhenIdle :
    State.reset.busy = false ∧
      nextIs (exec (wrMsgAt 15 0x18#32) State.reset) (fun t => t.msg[15] == 0x18#32) = true := by decide +kernel

theorem witness_WrMsgIsRefusedWhenBusy :
    running.busy = true ∧ nextIs (exec (wrMsgAt 0 0#32) running) (fun t => t.errcode == 2#4) = true := by
  decide +kernel

theorem witness_WrReadOnlyAnswersError (data : Word) : Instr.wrRoDigest4 data ∈
    [Instr.wrRoId data, .wrRoStatus data, .wrRoMvalid data, .wrRoLenLo data, .wrRoLenHi data, .wrRoDigest0 data,
      .wrRoDigest1 data, .wrRoDigest2 data, .wrRoDigest3 data, .wrRoDigest4 data] := by simp

/-- Each way to be unmapped: misaligned, the hole at 0x1C, and from 0x74 on. -/
theorem witness_UnmappedAccessAnswersError :
    (0x01#8).toNat % 4 ≠ 0 ∧ (0x73#8).toNat % 4 ≠ 0 ∧ 0x1C#8 = 0x1C#8 ∧ 0x74 ≤ (0x74#8).toNat ∧
      0x74 ≤ (0xFC#8).toNat := by decide +kernel

theorem witness_InitStartsASession : errored.busy = false ∧ abcDone.busy = false := by decide +kernel

theorem witness_BlockQueuesTheBuffer :
    loaded.busy = false ∧ loaded.err = false ∧ loaded.done = false ∧ loaded.mvalid = 0xFFFF#16 ∧
      loaded.len ≠ 0xFFFFFFFFFFFFFE00#64 := by decide +kernel

/-- Chunk lengths at both ends and on both sides of the two-block boundary. -/
theorem witness_FinalQueuesThePaddedTail :
    loaded.busy = false ∧ loaded.err = false ∧ loaded.done = false ∧
      (∀ n ∈ [0#6, 55#6, 56#6, 63#6], ∀ i, 4 * i < n.toNat → loaded.mvalid.getLsbD i = true) ∧
      State.reset.busy = false ∧ (∀ i, 4 * i < (0#6).toNat → State.reset.mvalid.getLsbD i = true) := by
  refine ⟨rfl, rfl, rfl, fun n hn i hi => ?_, rfl, fun i hi => ?_⟩
  · have := n.isLt
    have all : ∀ i < 16, (0xFFFF#16).getLsbD i = true := by decide
    exact all i (by omega)
  · simp at hi

theorem witness_IllegalWordRecordsIllegalCmd :
    ¬((0x00000100#32).toNat % 2 ^ 8 ≤ 3 ∧ (0x00000100#32).toNat / 2 ^ 14 = 0 ∧
      ((0x00000100#32).toNat / 2 ^ 8 % 2 ^ 6 = 0 ∨ (0x00000100#32).toNat % 2 ^ 8 = 3)) := by decide +kernel

theorem witness_CommandWhileBusyRecordsCmdBusy :
    running.busy = true ∧ Instr.final 3#6 ∈ [Instr.init, .block, .final 3#6] := by decide +kernel

theorem witness_ErroredSessionIgnoresBlockAndFinal :
    errored.busy = false ∧ errored.err = true ∧ Instr.block ∈ [Instr.block, .final 3#6] := by decide +kernel

/-- One state for each clause: done, a word missing for BLOCK, a word missing for FINAL, no room. -/
theorem witness_RefusedCommandRecordsTheFirstError :
    (abcDone.busy = false ∧ abcDone.err = false ∧ abcDone.done = true) ∧
      (State.reset.busy = false ∧ State.reset.err = false ∧ State.reset.done = false ∧
        State.reset.mvalid ≠ 0xFFFF#16) ∧
      (abcLoaded.busy = false ∧ abcLoaded.err = false ∧ abcLoaded.done = false ∧
        ∃ i, 4 * i < (5#6).toNat ∧ abcLoaded.mvalid.getLsbD i = false) ∧
      ∃ s : State, s.busy = false ∧ s.err = false ∧ s.done = false ∧ s.mvalid = 0xFFFF#16 ∧
        s.len = 0xFFFFFFFFFFFFFE00#64 :=
  ⟨by decide +kernel, by decide +kernel, ⟨rfl, rfl, rfl, 1, by decide +kernel⟩,
    { loaded with len := 0xFFFFFFFFFFFFFE00#64 }, rfl, rfl, rfl, rfl, rfl⟩

theorem witness_LengthCheckIsExact :
    (0xFFFFFFFFFFFFFE00#64).toNat ≤ 2 ^ 64 - 512 ∧ 63 ≤ 63 ∧ (0xFFFFFFFFFFFFFE00#64).toNat % 512 = 0 ∧
      (0xFFFFFFFFFFFFFC00#64).toNat % 512 = 0 := by decide +kernel

theorem witness_FirstErrorIsKept : State.reset.err = false ∧ errored.err = true := by decide +kernel

/-- An errored state that keeps its error, one that INIT and one that a reset clears. -/
theorem witness_OnlyInitAndResetClearErrors :
    errored.err = true ∧ nextIs (step errored) (fun t => t.err) = true ∧
      nextIs (step (errored.withFetchWord 32 0x00000001)) (fun t => !t.err) = true ∧
      nextIs (step { errored with inputs := [.reset] }) (fun t => !t.err) = true := by decide +kernel

theorem witness_OnlyFinalCompletionSetsDone :
    (finishing.done = false ∧ nextIs (step finishing) (fun t => t.done) = true) ∧
      abcDone.done = true ∧ nextIs (step (abcDone.withFetchWord 32 0x00000001)) (fun t => !t.done) = true ∧
      nextIs (step { abcDone with inputs := [.reset] }) (fun t => !t.done) = true := by decide +kernel

theorem witness_BusyFollowsAcceptanceAndCompletion :
    (loaded.busy = false ∧ nextIs (step (loaded.withFetchWord 41 0x10400000002)) (fun t => t.busy) = true) ∧
      finishing.busy = true ∧ nextIs (step finishing) (fun t => !t.busy) = true ∧
      nextIs (step { running with inputs := [.reset] }) (fun t => !t.busy) = true := by decide +kernel

/-- H changes by INIT, by reset and by ACCUM. -/
theorem witness_OnlyInitResetAndAccumulationWriteH :
    nextIs (step (abcDone.withFetchWord 32 0x00000001)) (fun t => t.h != abcDone.h) = true ∧
      nextIs (step { abcDone with inputs := [.reset] }) (fun t => t.h != abcDone.h) = true ∧
      nextIs (step { finishing with wv := iv }) (fun t => t.h != finishing.h) = true := by decide +kernel

/-- Two states that differ in H, Q and the engine's phase while DONE = 0. -/
theorem witness_NoResponseShowsIntermediateState :
    let s' : State := { running with h := abcDone.h, q := [abcBlock], phase := .round }
    s' = { running with
      h := s'.h, q := s'.q, fin := s'.fin, phase := s'.phase, w := s'.w, wv := s'.wv, t := s'.t, j := s'.j } ∧
      (running.done = true → s'.h = running.h) ∧ s'.h ≠ running.h ∧
      nextIs (exec .rdDigest0 running) (fun t => reads t 0#32) = true ∧
      nextIs (exec .rdDigest0 s') (fun t => reads t 0#32) = true := by decide +kernel

theorem witness_LoadCopiesTheHeadBlock : running.q = aBlock :: [] ∧ running.phase = .load := by decide +kernel

theorem witness_ExpandWritesOneScheduleWord : ∀ j ∈ [16, 79],
    let s : State := { running with phase := .expand, j := j }
    s.q ≠ [] ∧ s.phase = .expand ∧ 16 ≤ s.j ∧ s.j ≤ 79 := by decide +kernel

theorem witness_RoundUpdatesTheWorkingVariables : ∀ n ∈ [0, 79],
    let s : State := { running with phase := .round, t := n }
    s.q ≠ [] ∧ s.phase = .round ∧ s.t ≤ 79 := by decide +kernel

theorem witness_SubPassesUseTheirConstantAndFunction :
    19 ≤ 19 ∧ (20 ≤ 20 ∧ 20 ≤ 39) ∧ (20 ≤ 39 ∧ 39 ≤ 39) ∧ (40 ≤ 40 ∧ 40 ≤ 59) ∧ (40 ≤ 59 ∧ 59 ≤ 59) ∧
      (60 ≤ 60 ∧ 60 ≤ 79) ∧ (60 ≤ 79 ∧ 79 ≤ 79) := by decide +kernel

theorem witness_AccumFinishesTheBlock :
    (finishing.q = abcBlock :: [] ∧ finishing.phase = .accum) ∧
      ∃ s : State, s.q = abcBlock :: [aBlock] ∧ s.phase = .accum ∧ [aBlock] ≠ [] :=
  ⟨by decide +kernel, { finishing with q := [abcBlock, aBlock] }, rfl, rfl, by simp⟩

theorem witness_EngineWritesOnlyItsOwnState : nextIs (engineStep finishing) (fun t => t.done) = true := by
  decide +kernel

theorem witness_EngineMovesExactlyWhenQueued :
    (StateInv State.reset ∧ State.reset.q = []) ∧ (StateInv running ∧ running.q ≠ []) :=
  ⟨⟨stateInv_reset, rfl⟩, stateInv_running, by simp [running]⟩

/-- A last block and a block with another behind it. -/
theorem witness_EngineSequenceComputesCompress :
    (running.q = aBlock :: [] ∧ running.phase = .load) ∧
      ∃ s : State, s.q = aBlock :: [abcBlock] ∧ s.phase = .load :=
  ⟨by decide +kernel, { running with q := [aBlock, abcBlock] }, rfl, rfl⟩

theorem witness_EngineFinishesQueuedWork : StateInv running ∧ running.busy = true := ⟨stateInv_running, rfl⟩

theorem witness_RotlRotatesLeft : 0 ≤ 31 ∧ 31 ≤ 31 ∧ 0 < 32 ∧ 31 < 32 := by decide +kernel

theorem witness_ScheduleMeetsItsRecurrence : (16 ≤ 16 ∧ 16 ≤ 79) ∧ (16 ≤ 79 ∧ 79 ≤ 79) ∧ 0 < 16 ∧ 15 < 16 := by
  decide +kernel

/-- A message with a value and one without. -/
theorem witness_PadMeetsItsContract :
    8 * ([0x61#8, 0x62#8, 0x63#8] : List Byte).length < 2 ^ 64 ∧
      ∃ m : List Byte, ¬8 * m.length < 2 ^ 64 := by
  have long : ∀ n, ∃ m : List Byte, m.length = n := fun n => ⟨List.replicate n 0#8, List.length_replicate⟩
  obtain ⟨m, hm⟩ := long (2 ^ 61)
  exact ⟨by decide +kernel, m, by omega⟩

theorem witness_ZeroFillIsMinimal : (55 + 1 + 0 + 8) % 64 = 0 ∧ (56 + 1 + 63 + 8) % 64 = 0 := by decide +kernel

theorem witness_PadIsFullBlocksThenTail : 8 * (List.replicate 120 0x61#8).length ≤ 2 ^ 64 - 1 := by simp

theorem witness_DigestSerializesBigEndian : 0 < 5 ∧ 4 < 5 ∧ 0 < 4 ∧ 3 < 4 := by decide +kernel

theorem witness_ResetLeavesTheStatedValues :
    ({ running with inputs := [.reset, .engine] } : State).inputs = .reset :: [.engine] := by decide +kernel

theorem witness_StepKeepsTheInvariant :
    StateInv finishing ∧ nextIs (step finishing) (fun t => t.done && !t.busy) = true :=
  ⟨stateInv_finishing, by decide +kernel⟩

/-- A run from a reachable state reaches reachable states. -/
theorem reachable_of_run {n : Nat} {s t : State} (hs : Reachable s) (h : Host.Core.run core n s = .next t) :
    Reachable t := by
  induction n generalizing s with
  | zero =>
    cases h
    exact hs
  | succ n ih =>
    simp only [Host.Core.run] at h
    split at h
    · rename_i hu
      exact ih (.next hs hu) h
    · cases h
    · cases h

/-- The transactions of 95_test_vectors.md P1, rows 2 to 5: `init`, `wr MSG0`, `final 3`. -/
def abcInputs : List Input :=
  [.request (.bus 0x10400000001#41), .request (.bus 0x12061626300#41), .request (.bus 0x10400000303#41)]

/-- A reachable state for each clause: done, idle and about to accept FINAL, errored, and busy. -/
theorem witness_ReachableStatesMeetTheirInvariants :
    (∃ s, Reachable s ∧ s.done = true) ∧
      (∃ s, Reachable s ∧ s.busy = false ∧ nextIs (exec (.final 3#6) s) (fun t => t.busy) = true) ∧
      (∃ s, Reachable s ∧ s.err = true) ∧ (∃ s, Reachable s ∧ s.busy = true) := by
  refine ⟨?_, ?_, ?_, ?_⟩
  · have h : nextIs (Host.Core.run core 149 ({ State.reset with inputs := abcInputs } : State)) (fun t => t.done) = true := by
      decide +kernel
    obtain ⟨t, ht, hd⟩ := exists_of_nextIs h
    exact ⟨t, reachable_of_run (.start _) ht, hd⟩
  · have h : nextIs (Host.Core.run core 2 ({ State.reset with inputs := abcInputs } : State))
        (fun t => !t.busy && nextIs (exec (.final 3#6) t) (fun u => u.busy)) = true := by decide +kernel
    obtain ⟨t, ht, hd⟩ := exists_of_nextIs h
    exact ⟨t, reachable_of_run (.start _) ht, by simp_all⟩
  · have h : nextIs (Host.Core.run core 1 ({ State.reset with inputs := [.request (.cmd 0x00000002#32)] } : State))
        (fun t => t.err) = true := by decide +kernel
    obtain ⟨t, ht, hd⟩ := exists_of_nextIs h
    exact ⟨t, reachable_of_run (.start _) ht, hd⟩
  · have h : nextIs (Host.Core.run core 3 ({ State.reset with inputs := abcInputs } : State)) (fun t => t.busy) = true := by
      decide +kernel
    obtain ⟨t, ht, hd⟩ := exists_of_nextIs h
    exact ⟨t, reachable_of_run (.start _) ht, hd⟩

theorem witness_UnspecifiedResetValuesNeverShow :
    nextIs (Host.Core.run core 149 ({ State.reset with inputs := abcInputs } : State))
      (fun t => t.h == abcDone.h && t.done) = true := by decide +kernel

theorem eq_next_of_nextIs {o : Result} {t : State} (h : nextIs o (fun u => u == t) = true) : o = .next t := by
  obtain ⟨u, hu, e⟩ := exists_of_nextIs h
  rw [hu, eq_of_beq e]

/-- The host may let the engine have any number of turns before a transaction. -/
theorem sends_after_turns {i : Instr} {n : Nat} {s u t : State} (h : engineTurns n s = .next u)
    (ha : act (.request (encode i)) u = .next t) : Sends i s t := by
  induction n generalizing s with
  | zero =>
    cases h
    exact .now ha
  | succ n ih =>
    simp only [engineTurns] at h
    split at h
    · rename_i hu
      exact .engine (u := _) (by simpa [act, step] using hu) (ih h)
    · cases h
    · cases h

/-- A message and a state of the invariant; and the canonical sequence for the empty message has a run from reset, with
the first word of the digest as in 95_test_vectors.md P2. -/
theorem witness_CanonicalSequenceHashesTheMessage :
    ([] : List Byte).length ≤ 2 ^ 61 - 1 ∧ StateInv State.reset ∧
      ∃ t d, CanonicalRun [] State.reset t d ∧ d.a = 0xDA39A3EE#32 := by
  have turns : nextIs (engineTurns 146 { State.reset with
      q := [blockAt ([0x80#8] ++ zeros 63) 0], fin := true, busy := true, phase := .load, rsp := some (.write .okay) })
      (fun u => !u.busy && digestWord u u.h.a == 0xDA39A3EE#32) = true := by decide +kernel
  obtain ⟨u, hu, hp⟩ := exists_of_nextIs turns
  simp only [Bool.and_eq_true, Bool.not_eq_true', beq_iff_eq] at hp
  refine ⟨by simp, stateInv_reset, _, ⟨digestWord u u.h.a, digestWord u u.h.b, digestWord u u.h.c, digestWord u u.h.d,
    digestWord u u.h.e⟩, ⟨{ State.reset with rsp := some (.read 0#32 .okay) },
    { State.reset with rsp := some (.write .okay) }, _, _, _, { u with rsp := some (.read u.status .okay) }, _, _, _, _,
    .last (.now (eq_next_of_nextIs (by decide +kernel))) rfl rfl, .now (eq_next_of_nextIs (by decide +kernel)), rfl, rfl,
    .now (eq_next_of_nextIs (t := { State.reset with
      q := [blockAt ([0x80#8] ++ zeros 63) 0], fin := true, busy := true, phase := .load, rsp := some (.write .okay) })
      (by decide +kernel)),
    .last (sends_after_turns hu rfl) rfl ?_, ⟨.now rfl, rfl⟩, ⟨.now rfl, rfl⟩, ⟨.now rfl, rfl⟩, ⟨.now rfl, rfl⟩,
    ⟨.now rfl, rfl⟩⟩, hp.2⟩
  rw [status_busy_bit, hp.1]

/-- Two instances; the first and the last byte of a window, and the bytes just outside it. -/
theorem witness_AccessReachesTheAddressedInstance :
    let p := platformReset [1, 2]
    (p.map (fun x => x.window)).Nodup ∧ p[1]? = some ⟨2, State.reset⟩ ∧
      (HostAccess.read 0x200).addr = baseAddress 2 + (0x00#8).toNat ∧
      (HostAccess.write 0x2FF 5#32).addr = baseAddress 2 + (0xFF#8).toNat ∧
      (HostAccess.read 0x1FF).addr < baseAddress 2 ∧ baseAddress 2 + 256 ≤ (HostAccess.read 0x300).addr := by
  decide +kernel

theorem witness_InstancesShareNoState :
    let p : List BlockInstance := [⟨1, running⟩, ⟨2, State.reset⟩]
    p[0]? = some ⟨1, running⟩ ∧ ∃ p', platformStep 0 p = .next p' := by
  refine ⟨rfl, ?_⟩
  simp only [platformStep, List.getElem?_cons_zero]
  have h : nextIs (step running) (fun _ => true) = true := by decide +kernel
  obtain ⟨t, ht, -⟩ := exists_of_nextIs h
  simp [ht]

end Sys2Proof.Tests
end

