-- ==== Sys2Proof/Proofs/Scope.lean ====
section
/-! PROOFS about the notation of 00_scope.md: the circular rotation, bit by bit. -/

namespace Sys2Proof.Proofs

open Sys2Proof.Machine Sys2Proof.Laws

/-- The low n bits of a rotation by n are the bits the shift by 32 - n brings round. -/
theorem getLsbD_rotl_of_lt {x : Word} {n j : Nat} (hn : n < 32) (hj : j < n) :
    (rotl x n).getLsbD j = x.getLsbD (32 - n + j) := by
  rw [rotl_eq_rotateLeft hn, BitVec.getLsbD_rotateLeft_of_le hn]
  simp [hj]

/-- Above its low n bits a rotation by n is the shift by n. -/
theorem getLsbD_rotl_of_ge {x : Word} {n j : Nat} (hj : n ≤ j) (hj32 : j < 32) :
    (rotl x n).getLsbD j = x.getLsbD (j - n) := by
  have hn : n < 32 := by omega
  rw [rotl_eq_rotateLeft hn, BitVec.getLsbD_rotateLeft_of_le hn]
  simp [hj32, Nat.not_lt.mpr hj]

/-- Settles O45: bit i either stays inside the word, at i + n, or wraps round to i + n - 32. -/
theorem rotlRotatesLeft : Obligations.RotlRotatesLeft := by
  intro x n i hn hi
  by_cases hwrap : i + n < 32
  · rw [Nat.mod_eq_of_lt hwrap, getLsbD_rotl_of_ge (by omega) hwrap, Nat.add_sub_cancel]
  · have hmod : (i + n) % 32 = i + n - 32 := by omega
    rw [hmod, getLsbD_rotl_of_lt (by omega) (by omega)]
    congr 1
    omega

end Sys2Proof.Proofs
end

