-- ==== Sys2Proof/Proofs/State.lean ====
section
/-! PROOFS about the state of 10_state.md: the invariant at reset and along every step, what writes DONE, BUSY and H, the
interrupt output, and what a host can see. -/

namespace Sys2Proof.Proofs

open Sys2Proof.Machine Sys2Proof.Laws

variable {i : Instr} {s t u : State}

/-! ### What an accepted command queues and adds to LEN (43_commands.md R204 to R206) -/

/-- A BLOCK that finds room in LEN leaves it a multiple of 512 and at most 2^64 - 512. -/
theorem len_add_block {len : BitVec 64} (hmod : len.toNat % 512 = 0) (hroom : len ≠ lenLimit) :
    (len + 512#64).toNat % 512 = 0 ∧ (len + 512#64).toNat ≤ 2 ^ 64 - 512 := by
  have hne : len.toNat ≠ 2 ^ 64 - 512 := fun h => hroom (BitVec.eq_of_toNat_eq h)
  rw [BitVec.toNat_add, BitVec.toNat_ofNat]
  omega

/-- FINAL's addition to LEN does not wrap. -/
theorem finalLength_toNat {n : Nat} (hmax : s.len.toNat ≤ 2 ^ 64 - 512) (hn : n ≤ 63) :
    (finalLength s n).toNat = s.len.toNat + 8 * n := by
  rw [finalLength, BitVec.toNat_add, BitVec.toNat_ofNat]
  omega

theorem tailBlocks_ne_nil (bytes : List Byte) (n : Nat) : tailBlocks bytes n ≠ [] := by
  unfold tailBlocks
  split <;> simp

theorem tailBlocks_length_le (bytes : List Byte) (n : Nat) : (tailBlocks bytes n).length ≤ 2 := by
  unfold tailBlocks
  split <;> simp

theorem errorNumber_range (c : ErrorCode) : 1 ≤ (errorNumber c).toNat ∧ (errorNumber c).toNat ≤ 6 := by
  cases c <;> decide

/-! ### The invariant at reset and after a transaction -/

/-- Settles O54: with Q empty and every flag 0, each clause is a fact about the reset values. -/
theorem invariantHoldsAtReset : Obligations.InvariantHoldsAtReset := by
  intro inputs
  constructor <;> simp [State.reset, Config.resetRoundCounter, Config.resetExpansionIndex]

/-- The invariant does not speak of the response. -/
theorem stateInv_with_rsp (hs : StateInv s) (r : Option Response) : StateInv { s with rsp := r } := { hs with }

/-- The invariant does not speak of the events still to come. -/
theorem stateInv_with_inputs (hs : StateInv s) (rest : List Input) : StateInv { s with inputs := rest } := { hs with }

theorem stateInv_raiseError (hs : StateInv s) (c : ErrorCode) : StateInv (raiseError c s) := by
  obtain ⟨-, e⟩ | ⟨-, e⟩ := raiseError_cases c s <;> rw [e]
  · exact hs
  · exact { hs with
      no_error_code := nofun
      error_code := fun _ => errorNumber_range c
      len_open := nofun }

theorem stateInv_store (hs : StateInv s) (hb : s.busy = false) (msg : Block) (mvalid : BitVec 16) :
    StateInv { s with msg := msg, mvalid := mvalid } :=
  { hs with busy_mvalid := by simp [hb] }

theorem stateInv_writeIe (hs : StateInv s) (d : Word) : StateInv (writeIe d s) := { hs with }

/-- INIT opens a session with LEN = 0. -/
theorem stateInv_initSession (hs : StateInv s) (hb : s.busy = false) : StateInv (initSession s) :=
  { hs with
    done_not_busy := nofun
    no_error_code := by simp
    error_code := nofun
    busy_mvalid := by simp
    len_max := by simp
    len_open := by simp
    len_block := by simp [hb] }

theorem stateInv_acceptBlock (hs : StateInv s) (hb : s.busy = false) (he : s.err = false) (hd : s.done = false)
    (hroom : s.len ≠ lenLimit) : StateInv (acceptBlock s) := by
  have hlen := len_add_block (hs.len_open hb hd he).1 hroom
  exact { hs with
    queue_length := by simp
    idle_iff_empty := by simp
    busy_iff_queued := by simp
    fin_while_queued := by simp
    done_not_busy := by simp [hd]
    busy_mvalid := by simp
    len_max := by rw [acceptBlock_len]; omega
    len_open := by simp
    len_block := fun _ _ => by rwa [acceptBlock_len]
    expand_enabled := by simp
    expand_before_rounds := by simp
    round_enabled := by simp }

theorem stateInv_acceptFinal (hs : StateInv s) (hb : s.busy = false) (he : s.err = false) (hd : s.done = false)
    (n : BitVec 6) : StateInv (acceptFinal n.toNat s) := by
  obtain ⟨-, hmax⟩ := hs.len_open hb hd he
  have hn : n.toNat ≤ 63 := Nat.le_of_lt_succ n.isLt
  exact { hs with
    queue_length := by simpa using tailBlocks_length_le _ _
    idle_iff_empty := by simp [tailBlocks_ne_nil]
    busy_iff_queued := by simp [tailBlocks_ne_nil]
    fin_while_queued := by simp [tailBlocks_ne_nil]
    done_not_busy := by simp [hd]
    busy_mvalid := by simp
    len_max := by rw [acceptFinal_len, finalLength_toNat hmax hn]; omega
    len_open := by simp
    len_block := by simp
    expand_enabled := by simp
    expand_before_rounds := by simp
    round_enabled := by simp }

theorem stateInv_effect (hs : StateInv s) (he : Effect i s u) : StateInv u := by
  cases he with
  | unchanged => exact hs
  | error c => exact stateInv_raiseError hs c
  | store k d hb => exact stateInv_store hs hb _ _
  | enable d => exact stateInv_writeIe hs d
  | session hb _ => exact stateInv_initSession hs hb
  | block hb he hd _ hl _ => exact stateInv_acceptBlock hs hb he hd hl
  | final n hb he hd _ _ => exact stateInv_acceptFinal hs hb he hd n

/-! ### The invariant after an engine turn -/

theorem stateInv_engineLoad (hs : StateInv s) (hq : s.q ≠ []) (b : Block) : StateInv (engineLoad b s) :=
  { hs with
    idle_iff_empty := by simp [hq]
    round_counter := by simp
    expansion_index := by simp
    expand_enabled := by simp
    expand_before_rounds := by simp
    round_enabled := by simp }

/-- The last expansion leads to round 0, every other one to the next expansion. -/
theorem stateInv_engineExpand (hs : StateInv s) (hq : s.q ≠ []) (hp : s.phase = .expand) (hj : s.j ≤ 79) :
    StateInv (engineExpand s) := by
  have ht : s.t = 0 := hs.expand_before_rounds hp
  have hj16 : 16 ≤ s.j := hs.expansion_index.1
  by_cases hlast : s.j = 79
  · exact { hs with
      idle_iff_empty := by simp [hlast, hq]
      expansion_index := by simp [hlast]
      expand_enabled := by simp [hlast]
      expand_before_rounds := by simp [hlast]
      round_enabled := by simp [ht] }
  · exact { hs with
      idle_iff_empty := by simp [hlast, hq]
      expansion_index := by rw [engineExpand_j]; omega
      expand_enabled := fun _ => by rw [engineExpand_j]; omega
      expand_before_rounds := by simp [ht]
      round_enabled := by simp [hlast] }

/-- Round 79 leads to ACCUM, every other round to the next one. -/
theorem stateInv_engineRound (hs : StateInv s) (hq : s.q ≠ []) (ht : s.t ≤ 79) : StateInv (engineRound s) := by
  by_cases hlast : s.t = 79
  · exact { hs with
      idle_iff_empty := by simp [hlast, hq]
      round_counter := by simp [hlast]
      expand_enabled := by simp [hlast]
      expand_before_rounds := by simp [hlast]
      round_enabled := by simp [hlast] }
  · exact { hs with
      idle_iff_empty := by simp [hlast, hq]
      round_counter := by rw [engineRound_t]; omega
      expand_enabled := by simp [hlast]
      expand_before_rounds := by simp [hlast]
      round_enabled := fun _ => by rw [engineRound_t]; omega }

/-- With a block left the engine stays busy and LOAD follows. -/
theorem stateInv_engineAccum_cons {b c : Block} {rest : List Block} (hs : StateInv s) (hq : s.q = b :: c :: rest) :
    StateInv (engineAccum (c :: rest) s) := by
  have hb : s.busy = true := hs.busy_iff_queued.mpr (by simp [hq])
  have hlen : rest.length = 0 := by simpa [hq] using hs.queue_length
  exact { hs with
    queue_length := by simp [hlen]
    idle_iff_empty := by simp
    busy_iff_queued := by simp [hb]
    fin_while_queued := by simp
    expand_enabled := by simp
    expand_before_rounds := by simp
    round_enabled := by simp }

/-- Completion: a session still open then finished a BLOCK, so its LEN is a multiple of 512. -/
theorem stateInv_engineAccum_nil {b : Block} (hs : StateInv s) (hq : s.q = [b]) : StateInv (engineAccum [] s) := by
  have hb : s.busy = true := hs.busy_iff_queued.mpr (by simp [hq])
  have hopen (hd : (engineAccum [] s).done = false) (he : s.err = false) : s.fin = false := by
    simp [he] at hd
    exact hd.2
  exact { hs with
    queue_length := by simp
    idle_iff_empty := by simp
    busy_iff_queued := by simp
    fin_while_queued := by simp
    done_not_busy := by simp
    busy_mvalid := by simp
    len_open := fun _ hd he => hs.len_block hb (hopen hd he)
    len_block := by simp
    expand_enabled := by simp
    expand_before_rounds := by simp
    round_enabled := by simp }

theorem stateInv_engineStep (hs : StateInv s) (h : engineStep s = .next t) : StateInv t := by
  obtain ⟨-, rfl⟩ | ⟨b, rest, hq, -, rfl⟩ | ⟨hq, hp, -, hj, rfl⟩ | ⟨hq, -, ht, rfl⟩ | ⟨b, rest, hq, -, rfl⟩ :=
    engineStep_cases h
  · exact hs
  · exact stateInv_engineLoad hs (by simp [hq]) b
  · exact stateInv_engineExpand hs hq hp hj
  · exact stateInv_engineRound hs hq ht
  · cases rest with
    | nil => exact stateInv_engineAccum_nil hs hq
    | cons c rest => exact stateInv_engineAccum_cons hs hq

/-! ### The invariant after a step, and of every reachable state -/

/-- If a step answers a next state, a reset, a transaction or an engine turn took it there; a turn with no event in line
and one that is first in line are the same (20_memory.md R80). -/
theorem step_events (h : step s = .next t) :
    (∃ rest, s.inputs = .reset :: rest ∧ t = { State.reset with inputs := rest }) ∨
      (∃ r rest u rsp, s.inputs = .request r :: rest ∧ Effect (decodeRequest r) { s with inputs := rest } u ∧
        t = { u with rsp := rsp }) ∨
      ((s.inputs = [] ∨ ∃ rest, s.inputs = .engine :: rest) ∧
        ∃ rest, engineStep { s with inputs := rest } = .next t) := by
  obtain ⟨hin, hx⟩ | ⟨r, rest, hin, hx⟩ | ⟨rest, hin, hx⟩ | ⟨rest, hin, rfl⟩ := step_cases h
  · exact .inr (.inr ⟨.inl hin, s.inputs, hx⟩)
  · obtain ⟨u, rsp, he, rfl⟩ := exec_cases hx
    exact .inr (.inl ⟨r, rest, u, _, hin, he, rfl⟩)
  · exact .inr (.inr ⟨.inr ⟨rest, hin⟩, rest, hx⟩)
  · exact .inl ⟨rest, hin, rfl⟩

/-- Settles O55: a reset restores the invariant, and every effect of a transaction and every engine turn keeps it. -/
theorem stepKeepsTheInvariant : Obligations.StepKeepsTheInvariant := by
  intro s t hs h
  obtain ⟨rest, -, rfl⟩ | ⟨r, rest, u, rsp, -, he, rfl⟩ | ⟨-, rest, hx⟩ := step_events h
  · exact invariantHoldsAtReset rest
  · exact stateInv_with_rsp (stateInv_effect (stateInv_with_inputs hs rest) he) rsp
  · exact stateInv_engineStep (stateInv_with_inputs hs rest) hx

theorem stateInv_of_reachable (hs : Reachable s) : StateInv s := by
  induction hs with
  | start inputs => exact invariantHoldsAtReset inputs
  | next _ h ih => exact stepKeepsTheInvariant _ _ ih h

/-- A transaction leaves BUSY as it was, or accepts a BLOCK or a FINAL (43_commands.md R204, R206). -/
theorem effect_busy (he : Effect i s u) :
    u.busy = s.busy ∨
      (u.busy = true ∧ u.q ≠ [] ∧ u.mvalid = 0#16 ∧ s.busy = false ∧ s.err = false ∧ s.done = false ∧
        (i = .block ∨ (∃ n, i = .final n) ∨
          ∃ v, i = .wrCmd v ∧ (decodeCmd v = .block ∨ ∃ n, decodeCmd v = .final n))) := by
  cases he with
  | unchanged => exact .inl rfl
  | error c => exact .inl (raiseError_busy s c)
  | store k d hb => exact .inl rfl
  | enable d => exact .inl rfl
  | session hb _ => exact .inl rfl
  | block hb he hd _ _ hi =>
    refine .inr ⟨by simp, by simp, by simp, hb, he, hd, ?_⟩
    obtain hi | ⟨v, hi, hv⟩ := hi
    · exact .inl hi
    · exact .inr (.inr ⟨v, hi, .inl hv⟩)
  | final n hb he hd _ hi =>
    refine .inr ⟨by simp, by simp [tailBlocks_ne_nil], by simp, hb, he, hd, ?_⟩
    obtain hi | ⟨v, hi, hv⟩ := hi
    · exact .inr (.inl ⟨n, hi⟩)
    · exact .inr (.inr ⟨v, hi, .inr ⟨n, hv⟩⟩)

/-- Settles O56: each clause is read off the invariant; the second by way of `len_open`, because a command is accepted in
an open idle session only. -/
theorem reachableStatesMeetTheirInvariants : Obligations.ReachableStatesMeetTheirInvariants := by
  intro s hr
  have hs := stateInv_of_reachable hr
  refine ⟨hs.done_not_busy, fun i t hb hx ht => ?_, ⟨hs.len_max, hs.len_open⟩, ⟨hs.no_error_code, hs.error_code⟩,
    hs.busy_mvalid⟩
  obtain ⟨u, r, he, rfl⟩ := exec_cases hx
  obtain hsame | ⟨-, -, -, -, herr, hdone, -⟩ := effect_busy he
  · have hidle : u.busy = false := hsame.trans hb
    simp [hidle] at ht
  · exact (hs.len_open hb hdone herr).1

/-! ### What writes DONE, BUSY and H -/

/-- A transaction is an accepted INIT, or leaves DONE and H as they were (43_commands.md R203). -/
theorem effect_done_h (he : Effect i s u) :
    (u.done = s.done ∧ u.h = s.h) ∨
      (u.done = false ∧ u.h = iv ∧ s.busy = false ∧ (i = .init ∨ i = .wrCmd 0x00000001#32)) := by
  cases he with
  | session hb hi => exact .inr ⟨rfl, rfl, hb, hi⟩
  | unchanged => exact .inl ⟨rfl, rfl⟩
  | error c => exact .inl (by simp)
  | store k d hb => exact .inl ⟨rfl, rfl⟩
  | enable d => exact .inl ⟨rfl, rfl⟩
  | block _ _ _ _ _ _ => exact .inl (by simp)
  | final n _ _ _ _ _ => exact .inl (by simp)

/-- A turn of the engine is an ACCUM, or leaves DONE, BUSY and H as they were (42_engine.md R182 to R185). -/
theorem engineStep_accum_or_frame (h : engineStep s = .next t) :
    (t.done = s.done ∧ t.busy = s.busy ∧ t.h = s.h) ∨
      ∃ b rest, s.q = b :: rest ∧ s.phase = .accum ∧ t = engineAccum rest s := by
  obtain ⟨-, rfl⟩ | ⟨b, rest, -, -, rfl⟩ | ⟨-, -, -, -, rfl⟩ | ⟨-, -, -, rfl⟩ | haccum := engineStep_cases h
  · exact .inl ⟨rfl, rfl, rfl⟩
  · exact .inl ⟨rfl, rfl, rfl⟩
  · exact .inl ⟨rfl, rfl, rfl⟩
  · exact .inl ⟨rfl, rfl, rfl⟩
  · exact .inr haccum

/-- A flag that keeps its value neither rises nor falls. -/
theorem flag_unchanged {old new : Bool} {p q : Prop} (h : new = old) :
    (old = false → new = true → p) ∧ (old = true → new = false → q) := by
  subst h
  cases new <;> simp

/-- Settles O31: a reset and INIT only clear DONE, no other transaction writes it, and ACCUM only sets it, at completion. -/
theorem onlyFinalCompletionSetsDone : Obligations.OnlyFinalCompletionSetsDone := by
  intro s t h
  obtain ⟨rest, hin, rfl⟩ | ⟨r, rest, u, rsp, hin, he, rfl⟩ | ⟨hin, rest, hx⟩ := step_events h
  · exact ⟨nofun, fun _ _ => .inl ⟨rest, hin⟩⟩
  · obtain ⟨hsame, -⟩ | ⟨hclear, -, hb, hi⟩ := effect_done_h he
    · exact flag_unchanged hsame
    · exact ⟨by simp [hclear], fun _ _ => .inr ⟨hb, r, rest, hin, hi⟩⟩
  · obtain ⟨hsame, -, -⟩ | ⟨b, q, hq, hp, rfl⟩ := engineStep_accum_or_frame hx
    · exact flag_unchanged hsame
    · refine ⟨fun hs ht => ?_, fun hs ht => ?_⟩
      · obtain ⟨rfl, hfin, herr⟩ : q = [] ∧ s.fin = true ∧ s.err = false := by simpa [hs] using ht
        exact ⟨hfin, herr, hp, by simpa using congrArg List.length hq, by simp, hin⟩
      · simp [hs] at ht

/-- Settles O32: of the transactions only an acceptance writes BUSY, and it sets it; the ACCUM of the last block and a
reset clear it. -/
theorem busyFollowsAcceptanceAndCompletion : Obligations.BusyFollowsAcceptanceAndCompletion := by
  intro s t h
  obtain ⟨rest, hin, rfl⟩ | ⟨r, rest, u, rsp, hin, he, rfl⟩ | ⟨hin, rest, hx⟩ := step_events h
  · exact ⟨nofun, fun _ _ => .inl ⟨rest, hin⟩⟩
  · obtain hsame | ⟨hset, hq, hm, -, herr, hdone, hi⟩ := effect_busy he
    · exact flag_unchanged hsame
    · exact ⟨fun _ _ => ⟨hq, hm, herr, hdone, r, rest, hin, hi⟩, by simp [hset]⟩
  · obtain ⟨-, hsame, -⟩ | ⟨b, q, hq, hp, rfl⟩ := engineStep_accum_or_frame hx
    · exact flag_unchanged hsame
    · refine ⟨fun hs ht => ?_, fun hs ht => ?_⟩
      · simp [hs] at ht
      · obtain rfl : q = [] := by simpa [hs] using ht
        exact .inr ⟨hp, by simpa using congrArg List.length hq, by simp, by simp⟩

/-- Settles O33: of the transactions only INIT writes H, and of the engine's steps only ACCUM. -/
theorem onlyInitResetAndAccumulationWriteH : Obligations.OnlyInitResetAndAccumulationWriteH := by
  intro s t h hne
  obtain ⟨rest, hin, rfl⟩ | ⟨r, rest, u, rsp, hin, he, rfl⟩ | ⟨hin, rest, hx⟩ := step_events h
  · exact .inl ⟨rest, hin⟩
  · obtain ⟨-, hsame⟩ | ⟨-, hiv, hb, hi⟩ := effect_done_h he
    · exact absurd hsame hne
    · exact .inr (.inl ⟨hiv, hb, r, rest, hin, hi⟩)
  · obtain ⟨-, -, hsame⟩ | ⟨b, q, hq, hp, rfl⟩ := engineStep_accum_or_frame hx
    · exact absurd hsame hne
    · exact .inr (.inr ⟨by simp, hp, List.ne_nil_of_mem (hq ▸ List.mem_cons_self), hin⟩)

/-! ### What a host can see -/

/-- Settles O34: the formula of R52 clause by clause, and IE = 0 at reset. -/
theorem irqIsTheOrOfEnabledConditions : Obligations.IrqIsTheOrOfEnabledConditions := by
  refine ⟨fun s => ?_, by simp [State.irq, State.reset]⟩
  simp [State.irq, or_assoc]

/-- Two states agree on everything a transaction can read: the host's registers, and H while DONE = 1. -/
structure HostAgrees (s s' : State) : Prop where
  busy : s'.busy = s.busy
  done : s'.done = s.done
  err : s'.err = s.err
  errcode : s'.errcode = s.errcode
  mvalid : s'.mvalid = s.mvalid
  ie : s'.ie = s.ie
  len : s'.len = s.len
  msg : s'.msg = s.msg
  rsp : s'.rsp = s.rsp
  h : s.done = true → s'.h = s.h

/-- Both outcomes are next states, and these agree. -/
def OutcomesAgree (o o' : Result) : Prop := ∃ t t', o = .next t ∧ o' = .next t' ∧ HostAgrees t t'

/-- A choice both states make alike keeps the agreement. -/
theorem HostAgrees.ite {c : Prop} [Decidable c] {x x' y y' : State} (ht : HostAgrees x x') (he : HostAgrees y y') :
    HostAgrees (if c then x else y) (if c then x' else y') := by
  split
  · exact ht
  · exact he

section
variable {s' : State} (a : HostAgrees s s')
include a

theorem HostAgrees.status : s'.status = s.status := by
  rw [State.status, State.status, a.errcode, a.err, a.done, a.busy]

theorem HostAgrees.irq : s'.irq = s.irq := by
  rw [State.irq, State.irq, a.ie, a.done, a.err, a.busy]

/-- A DIGEST register shows a word of H while DONE = 1 only (10_state.md R50). -/
theorem HostAgrees.digestWord (word : FiveWords → Word) :
    Machine.digestWord s' (word s'.h) = Machine.digestWord s (word s.h) := by
  unfold Machine.digestWord
  rw [a.done]
  split
  · rw [a.h ‹_›]
  · rfl

/-! Every operation on the registers keeps the agreement. -/

theorem HostAgrees.with_rsp (r : Option Response) : HostAgrees { s with rsp := r } { s' with rsp := r } :=
  { a with rsp := rfl }

theorem HostAgrees.raiseError (c : ErrorCode) : HostAgrees (raiseError c s) (raiseError c s') := by
  unfold Machine.raiseError
  rw [a.err]
  split
  · exact a
  · exact { a with err := rfl, errcode := rfl }

theorem HostAgrees.initSession : HostAgrees (initSession s) (initSession s') :=
  { a with done := rfl, err := rfl, errcode := rfl, mvalid := rfl, len := rfl, h := nofun }

theorem HostAgrees.writeIe (d : Word) : HostAgrees (writeIe d s) (writeIe d s') := { a with ie := rfl }

theorem HostAgrees.writeMsg (k : Fin 16) (d : Word) : HostAgrees (writeMsg k d s) (writeMsg k d s') := by
  unfold Machine.writeMsg
  rw [a.busy]
  split
  · exact a.raiseError _
  · exact { a with busy := rfl, mvalid := by rw [a.mvalid], msg := by rw [a.msg] }

theorem HostAgrees.acceptBlock : HostAgrees (acceptBlock s) (acceptBlock s') :=
  { a with busy := rfl, mvalid := rfl, len := by rw [acceptBlock_len, acceptBlock_len, a.len] }

theorem HostAgrees.acceptFinal (n : Nat) : HostAgrees (acceptFinal n s) (acceptFinal n s') :=
  { a with
    busy := rfl
    mvalid := rfl
    len := by rw [acceptFinal_len, acceptFinal_len, finalLength, finalLength, a.len] }

theorem HostAgrees.checkedAccept {accept : State → State} (need : BitVec 16) (overflow : Bool)
    (haccept : HostAgrees (accept s) (accept s')) :
    HostAgrees (checkedAccept need overflow accept s) (checkedAccept need overflow accept s') := by
  unfold Machine.checkedAccept
  rw [a.busy, a.err, a.done, a.mvalid]
  exact .ite (a.raiseError _) <| .ite a <| .ite (a.raiseError _) <| .ite (a.raiseError _) <|
    .ite (a.raiseError _) haccept

theorem HostAgrees.commandWrite (v : Word) : HostAgrees (commandWrite v s) (commandWrite v s') := by
  unfold Machine.commandWrite
  rw [a.busy, a.err, a.done, a.mvalid, a.len]
  exact .ite (a.raiseError _) <| .ite a <| .ite (a.raiseError _) <| .ite a.initSession <| .ite a <|
    .ite (a.raiseError _) <| .ite (a.raiseError _) <| .ite (a.raiseError _) <| .ite a.acceptBlock (a.acceptFinal _)

theorem HostAgrees.answerWrite (r : Resp) : OutcomesAgree (answerWrite s r) (answerWrite s' r) :=
  ⟨_, _, rfl, rfl, a.with_rsp _⟩

theorem HostAgrees.answerRead {d d' : Word} (hd : d' = d) (r : Resp) :
    OutcomesAgree (answerRead s d r) (answerRead s' d' r) := by
  subst hd
  exact ⟨_, _, rfl, rfl, a.with_rsp _⟩

/-- No transaction tells two such states apart (60_exceptions.md R279). -/
theorem HostAgrees.exec (i : Instr) : OutcomesAgree (exec i s) (exec i s') := by
  cases i
  case nop => exact a.answerWrite _
  case init =>
    refine HostAgrees.answerWrite ?_ _
    rw [a.busy]
    exact .ite (a.raiseError _) a.initSession
  case block =>
    refine HostAgrees.answerWrite ?_ _
    rw [a.len]
    exact a.checkedAccept _ _ a.acceptBlock
  case final n => exact (a.checkedAccept _ _ (a.acceptFinal _)).answerWrite _
  case cmdIllegal w => exact (a.raiseError _).answerWrite _
  case wrCmd v => exact (a.commandWrite v).answerWrite _
  case wrIe d => exact (a.writeIe d).answerWrite _
  case rdStatus => exact a.answerRead a.status _
  case rdIe => exact a.answerRead (by rw [a.ie]) _
  case rdMvalid => exact a.answerRead (by rw [a.mvalid]) _
  case rdLenLo => exact a.answerRead (by rw [State.lenLo, State.lenLo, a.len]) _
  case rdLenHi => exact a.answerRead (by rw [State.lenHi, State.lenHi, a.len]) _
  case rdDigest0 => exact a.answerRead (a.digestWord FiveWords.a) _
  case rdDigest1 => exact a.answerRead (a.digestWord FiveWords.b) _
  case rdDigest2 => exact a.answerRead (a.digestWord FiveWords.c) _
  case rdDigest3 => exact a.answerRead (a.digestWord FiveWords.d) _
  case rdDigest4 => exact a.answerRead (a.digestWord FiveWords.e) _
  case rdId | rdCmd | rdUnmapped => exact a.answerRead rfl _
  case rdMsg0 | rdMsg1 | rdMsg2 | rdMsg3 | rdMsg4 | rdMsg5 | rdMsg6 | rdMsg7 | rdMsg8 | rdMsg9 | rdMsg10 | rdMsg11 |
      rdMsg12 | rdMsg13 | rdMsg14 | rdMsg15 =>
    exact a.answerRead (by rw [a.msg]) _
  case wrMsg0 | wrMsg1 | wrMsg2 | wrMsg3 | wrMsg4 | wrMsg5 | wrMsg6 | wrMsg7 | wrMsg8 | wrMsg9 | wrMsg10 | wrMsg11 |
      wrMsg12 | wrMsg13 | wrMsg14 | wrMsg15 =>
    exact (a.writeMsg _ _).answerWrite _
  case wrRoId | wrRoStatus | wrRoMvalid | wrRoLenLo | wrRoLenHi | wrRoDigest0 | wrRoDigest1 | wrRoDigest2 | wrRoDigest3 |
      wrRoDigest4 | wrUnmapped =>
    exact a.answerWrite _

end

/-- Settles O35: states that differ in the engine's part, and in H while DONE = 0, are states that agree for the host, and
every transaction keeps them so. -/
theorem noResponseShowsIntermediateState : Obligations.NoResponseShowsIntermediateState := by
  intro i s t s' t' hs' hh ht ht'
  have agree : HostAgrees s s' := by
    constructor
    case h => exact hh
    all_goals rw [hs']
  obtain ⟨u, u', hu, hu', a⟩ := agree.exec i
  obtain rfl : t = u := by rw [ht] at hu; injection hu
  obtain rfl : t' = u' := by rw [ht'] at hu'; injection hu'
  exact ⟨a.rsp, a.status, a.irq, a.len, a.mvalid, a.msg, a.ie⟩

end Sys2Proof.Proofs
end

