-- ==== Sys2Proof/Proofs/Memory.lean ====
section
/-! PROOFS about the address space of 20_memory.md: which transaction a step takes off the line and what it decodes to, and
which block on a platform's bus an access reaches. -/

namespace Sys2Proof.Proofs

open Sys2Proof.Machine Sys2Proof.Laws

/-! ### The decoders on the words of the encoder (30_encoding.md R103, R106, R107) -/

@[simp] theorem decodeBus_busReadWord (addr : BitVec 8) : decodeBus (busReadWord addr) = decodeRead addr := by
  simp [decodeBus]

@[simp] theorem decodeBus_busWriteWord (addr : BitVec 8) (data : Word) :
    decodeBus (busWriteWord addr data) = decodeWrite addr data := by
  simp [decodeBus]

@[simp] theorem decodeCmd_final (n : BitVec 6) : decodeCmd (cmdWord 0x03#8 n) = .final n := by
  simp [decodeCmd, cmdWellFormed]

/-- With RSVD = 0 a command word is its OP and its NBYTES. -/
theorem eq_cmdWord {v : BitVec 32} (h : cmdRsvd v = 0#18) : v = cmdWord (cmdOp v) (cmdNbytes v) := by
  have hhigh : v.toNat / 2 ^ 14 = 0 := by rw [← cmdRsvd_toNat, h, BitVec.toNat_ofNat, Nat.zero_mod]
  apply BitVec.eq_of_toNat_eq
  rw [cmdWord_toNat, cmdOp_toNat, cmdNbytes_toNat]
  omega

/-- A well-formed word lies in a defined row: either NBYTES = 0, or the row is FINAL. -/
theorem definedCommandWord_of_cmdWellFormed {v : BitVec 32} (h : cmdWellFormed v = true) :
    definedCommandWord v = true := by
  have bare : ∀ op : BitVec 8, op.toNat ≤ 3 → definedCommandWord (cmdWord op 0#6) = true := by decide +kernel
  have final : ∀ n : BitVec 6, definedCommandWord (cmdWord 3#8 n) = true := by decide +kernel
  obtain ⟨⟨hop, hrsvd⟩, hn | hop3⟩ :
      ((cmdOp v).toNat ≤ 3 ∧ cmdRsvd v = 0#18) ∧ (cmdNbytes v = 0#6 ∨ cmdOp v = 3#8) := by
    simpa [cmdWellFormed] using h
  · rw [eq_cmdWord hrsvd, hn]
    exact bare _ hop
  · rw [eq_cmdWord hrsvd, hop3]
    exact final _

theorem decodeCmd_of_not_defined {v : BitVec 32} (h : definedCommandWord v = false) : decodeCmd v = .cmdIllegal v := by
  refine if_neg fun hw => ?_
  rw [definedCommandWord_of_cmdWellFormed hw] at h
  contradiction

theorem decodeRead_of_not_registerOffset :
    ∀ addr : BitVec 8, registerOffset addr = false → decodeRead addr = .rdUnmapped addr := by decide +kernel

/-- Every row of the write column but the last is that of a register's offset. -/
theorem decodeWrite_of_not_registerOffset {addr : BitVec 8} (h : registerOffset addr = false) (data : Word) :
    decodeWrite addr data = .wrUnmapped addr data := by
  unfold decodeWrite
  split
  · rfl
  · split
    case h_29 => rfl
    all_goals simp [registerOffset, *] at h

/-- A well-formed instruction is what its own encoding decodes to. -/
theorem decodeRequest_encode {i : Instr} (h : i.wellFormed = true) : decodeRequest (encode i) = i := by
  cases i
  case nop | init | block => rfl
  case final n => exact decodeCmd_final n
  case cmdIllegal word => exact decodeCmd_of_not_defined (by simpa [Instr.wellFormed] using h)
  case rdUnmapped addr =>
    exact (decodeBus_busReadWord addr).trans
      (decodeRead_of_not_registerOffset addr (by simpa [Instr.wellFormed] using h))
  case wrUnmapped addr data =>
    exact (decodeBus_busWriteWord addr data).trans
      (decodeWrite_of_not_registerOffset (by simpa [Instr.wellFormed] using h) data)
  case rdId | rdCmd | rdStatus | rdIe | rdMvalid | rdLenLo | rdLenHi | rdMsg0 | rdMsg1 | rdMsg2 | rdMsg3 | rdMsg4 | rdMsg5 |
      rdMsg6 | rdMsg7 | rdMsg8 | rdMsg9 | rdMsg10 | rdMsg11 | rdMsg12 | rdMsg13 | rdMsg14 | rdMsg15 | rdDigest0 |
      rdDigest1 | rdDigest2 | rdDigest3 | rdDigest4 =>
    exact decodeBus_busReadWord _
  case wrCmd | wrIe | wrMsg0 | wrMsg1 | wrMsg2 | wrMsg3 | wrMsg4 | wrMsg5 | wrMsg6 | wrMsg7 | wrMsg8 | wrMsg9 | wrMsg10 |
      wrMsg11 | wrMsg12 | wrMsg13 | wrMsg14 | wrMsg15 | wrRoId | wrRoStatus | wrRoMvalid | wrRoLenLo | wrRoLenHi |
      wrRoDigest0 | wrRoDigest1 | wrRoDigest2 | wrRoDigest3 | wrRoDigest4 =>
    exact decodeBus_busWriteWord _ _

/-! ### The transaction of a step (20_memory.md R78, R80) -/

/-- A table word the decoder reads lays out a transaction. -/
theorem requestOfBytes_of_decodeTableWord {nbits word : Nat} {i : Instr} (h : decodeTableWord nbits word = some i) :
    ∃ r, requestOfBytes (tableBytes nbits word) = .ok r ∧ decodeRequest r = i := by
  unfold decodeTableWord decode at h
  cases hr : requestOfBytes (tableBytes nbits word) with
  | ok r => exact ⟨r, rfl, by simpa [hr] using h⟩
  | error why => simp [hr] at h

theorem withFetchWord_of_ok {nbits word : Nat} {r : Request} (h : requestOfBytes (tableBytes nbits word) = .ok r)
    (s : State) : s.withFetchWord nbits word = { s with inputs := .request r :: s.inputs } := by
  simp [State.withFetchWord, h]

/-- A fetched table word runs, and leaves the line as it was before the fetch. -/
theorem step_withFetchWord {nbits word : Nat} {i : Instr} (h : decodeTableWord nbits word = some i) (s : State) :
    step (s.withFetchWord nbits word) = exec i s := by
  obtain ⟨r, hr, rfl⟩ := requestOfBytes_of_decodeTableWord h
  rw [withFetchWord_of_ok hr]
  exact step_of_request rfl

/-- Settles O6: a step decodes the first transaction in line, and the decoder undoes the encoder. -/
theorem stepRunsTheDecodedInstruction : Obligations.StepRunsTheDecodedInstruction := by
  refine ⟨fun s i rest hi hin => ?_, fun s r rest => step_of_request, fun s nbits word i h => step_withFetchWord h s,
    fun s rest => step_of_engine, fun s => step_of_no_input⟩
  rw [step_of_request hin, decodeRequest_encode hi]

/-! ### The block that an access reaches (20_memory.md R74) -/

section
variable {b c : BlockInstance} {a : HostAccess} {addr : Nat}

theorem claims_iff : b.claims addr = true ↔ baseAddress b.window ≤ addr ∧ addr < baseAddress b.window + 256 := by
  simp [BlockInstance.claims]

/-- Windows are 256 bytes apart, so no address lies in two of them. -/
theorem window_eq_of_claims (hb : b.claims addr = true) (hc : c.claims addr = true) : b.window = c.window := by
  rw [claims_iff, baseAddress] at hb hc
  omega

theorem receive_of_claims (h : b.claims a.addr = true) :
    b.receive a =
      { b with block := { b.block with inputs := b.block.inputs ++ [.request (a.request b.window)] } } :=
  if_pos h

theorem receive_of_not_claims (h : ¬b.claims a.addr = true) : b.receive a = b := if_neg h

end

/-- An address's offset in the window is what the port sees. -/
@[simp] theorem busOffset_baseAddress_add (window : Nat) (off : BitVec 8) :
    busOffset window (baseAddress window + off.toNat) = off := by
  simp [busOffset]

theorem getElem?_platformAccess (a : HostAccess) (p : List BlockInstance) (k : Nat) :
    (platformAccess a p)[k]? = p[k]?.map (BlockInstance.receive a) :=
  List.getElem?_map

/-- A place on the bus is left as it was when its block does not claim the address. -/
theorem getElem?_platformAccess_of_not_claims {a : HostAccess} {p : List BlockInstance} {k : Nat}
    (h : ∀ b, p[k]? = some b → ¬b.claims a.addr = true) : (platformAccess a p)[k]? = p[k]? := by
  rw [getElem?_platformAccess]
  cases hk : p[k]? with
  | none => rfl
  | some b => rw [Option.map_some, receive_of_not_claims (h b hk)]

/-- With distinct windows an address is claimed at one place only. -/
theorem index_eq_of_claims {p : List BlockInstance} {k k' addr : Nat} {b c : BlockInstance}
    (hp : (p.map (fun x => x.window)).Nodup) (hb : p[k]? = some b) (hc : p[k']? = some c)
    (hbclaims : b.claims addr = true) (hcclaims : c.claims addr = true) : k = k' := by
  refine (List.getElem?_inj ?_ hp).1 ?_
  · simpa using (List.getElem?_eq_some_iff.1 hb).1
  · rw [List.getElem?_map, List.getElem?_map, hb, hc, Option.map_some, Option.map_some,
      window_eq_of_claims hbclaims hcclaims]

/-- Settles O59: the addressed block claims the address and, the windows being distinct, no other does. -/
theorem accessReachesTheAddressedInstance : Obligations.AccessReachesTheAddressedInstance := by
  intro p a k b hp hk
  refine ⟨fun off haddr => ?_, fun hout => getElem?_platformAccess_of_not_claims fun c hc => ?_⟩
  · have hclaims : b.claims a.addr = true := by
      have := off.isLt
      rw [claims_iff]
      omega
    refine ⟨?_, fun k' hne => getElem?_platformAccess_of_not_claims fun c hc hcclaims =>
      hne (index_eq_of_claims hp hc hk hcclaims hclaims)⟩
    rw [getElem?_platformAccess, hk, Option.map_some, receive_of_claims hclaims]
    cases a with
    | read addr =>
      obtain rfl : addr = baseAddress b.window + off.toNat := haddr
      simp [HostAccess.request, busReadWord]
    | write addr data =>
      obtain rfl : addr = baseAddress b.window + off.toNat := haddr
      simp [HostAccess.request, busWriteWord]
  · obtain rfl : b = c := by simpa [hk] using hc
    rw [claims_iff]
    omega

end Sys2Proof.Proofs
end

