-- ==== Sys2Proof/Proofs/Encoding.lean ====
section
/-! PROOFS about the encoding of 30_encoding.md: the decoders against the encoder, in both directions, and against the
opcode table. -/

namespace Sys2Proof.Proofs

open Sys2Proof.Laws Sys2Proof.Laws.OwnRow

/-! ### Encoding, then decoding (R101 to R107) -/

/-- Settles O1: thirteen fixed words, decoded. -/
theorem encodedWordsReadAsTheirInstruction : Obligations.EncodedWordsReadAsTheirInstruction := by
  unfold Obligations.EncodedWordsReadAsTheirInstruction
  decide

/-- Settles O2: the bytes give back the transaction, and the transaction its instruction. -/
theorem decodeOfEncodeIsTheInstruction : Obligations.DecodeOfEncodeIsTheInstruction := by
  intro i hi
  rw [decode, encodeBytes, requestOfBytes_requestBytes]
  exact congrArg Decoded.instr (decodeRequest_encode hi)

/-! ### Command words (R103, R104, R107) -/

section
variable {v : BitVec 32}

theorem cmdWellFormed_iff :
    cmdWellFormed v = true ↔ (cmdOp v).toNat ≤ 3 ∧ cmdRsvd v = 0#18 ∧ (cmdNbytes v = 0#6 ∨ cmdOp v = 3#8) := by
  simp [cmdWellFormed, and_assoc]

/-- R107 in the arithmetic of the word. -/
theorem cmdWellFormed_iff_toNat :
    cmdWellFormed v = true ↔
      v.toNat % 2 ^ 8 ≤ 3 ∧ v.toNat / 2 ^ 14 = 0 ∧ (v.toNat / 2 ^ 8 % 2 ^ 6 = 0 ∨ v.toNat % 2 ^ 8 = 3) := by
  rw [cmdWellFormed_iff, ← BitVec.toNat_inj, ← BitVec.toNat_inj, ← BitVec.toNat_inj, cmdOp_toNat, cmdRsvd_toNat,
    cmdNbytes_toNat]
  rfl

/-- The four rows of R103: a well-formed word is that of its command, and decodes to it. -/
theorem decodeCmd_of_cmdWellFormed (h : cmdWellFormed v = true) :
    (v = cmdWord 0#8 0#6 ∧ decodeCmd v = .nop) ∨ (v = cmdWord 1#8 0#6 ∧ decodeCmd v = .init) ∨
      (v = cmdWord 2#8 0#6 ∧ decodeCmd v = .block) ∨ ∃ n, v = cmdWord 3#8 n ∧ decodeCmd v = .final n := by
  obtain ⟨hop, hrsvd, hn⟩ := cmdWellFormed_iff.1 h
  rw [eq_cmdWord hrsvd]
  have four : ∀ op : BitVec 8, op.toNat ≤ 3 → op = 0#8 ∨ op = 1#8 ∨ op = 2#8 ∨ op = 3#8 := by decide
  obtain hop | hop | hop | hop := four _ hop
  all_goals rw [hop] at hn ⊢
  case inr.inr.inr => exact .inr (.inr (.inr ⟨_, rfl, decodeCmd_final _⟩))
  all_goals rw [show cmdNbytes v = 0#6 by simpa using hn]
  · exact .inl ⟨rfl, rfl⟩
  · exact .inr (.inl ⟨rfl, rfl⟩)
  · exact .inr (.inr (.inl ⟨rfl, rfl⟩))

theorem decodeCmd_of_not_cmdWellFormed (h : ¬cmdWellFormed v = true) : decodeCmd v = .cmdIllegal v := if_neg h

/-- Settles O5: the numbers say `cmdWellFormed`, and the decoder branches on it. -/
theorem commandWordIsWellFormedOrIllegal : Obligations.CommandWordIsWellFormedOrIllegal := by
  intro v
  rw [← cmdWellFormed_iff_toNat]
  by_cases h : cmdWellFormed v = true
  · refine .inl ⟨h, ?_⟩
    obtain hv | hv | hv | ⟨n, hv, hd⟩ := decodeCmd_of_cmdWellFormed h
    · exact .inl hv
    · exact .inr (.inl hv)
    · exact .inr (.inr (.inl hv))
    · refine .inr (.inr (.inr ⟨n, ?_, hd⟩))
      rw [hv, cmdWord_toNat, Nat.mul_comm, Nat.add_comm]
      rfl
  · exact .inr ⟨h, decodeCmd_of_not_cmdWellFormed h⟩

/-- A word of a defined row passes R107's check: what the row's mask keeps of OP and RSVD is all of them. -/
theorem cmdWellFormed_of_definedCommandWord (h : definedCommandWord v = true) : cmdWellFormed v = true := by
  simp only [definedCommandWord, Bool.or_eq_true, beq_iff_eq] at h
  obtain ((rfl | rfl) | rfl) | h := h
  · decide
  · decide
  · decide
  · have hop : cmdOp v = 3#8 := by
      have hmasked := congrArg cmdOp h
      rw [cmdOp, BitVec.extractLsb'_and] at hmasked
      exact BitVec.and_allOnes.symm.trans hmasked
    have hrsvd : cmdRsvd v = 0#18 := by
      have hmasked := congrArg cmdRsvd h
      rw [cmdRsvd, BitVec.extractLsb'_and] at hmasked
      exact BitVec.and_allOnes.symm.trans hmasked
    rw [cmdWellFormed_iff, hop]
    exact ⟨by decide, hrsvd, .inr rfl⟩

end

/-! ### Decoding, then encoding (R101, R110) -/

theorem encode_decodeCmd (v : BitVec 32) : encode (decodeCmd v) = .cmd v := by
  by_cases h : cmdWellFormed v = true
  · obtain ⟨rfl, hd⟩ | ⟨rfl, hd⟩ | ⟨rfl, hd⟩ | ⟨n, rfl, hd⟩ := decodeCmd_of_cmdWellFormed h <;> rw [hd] <;> rfl
  · rw [decodeCmd_of_not_cmdWellFormed h]
    rfl

theorem wellFormed_decodeCmd (v : BitVec 32) : (decodeCmd v).wellFormed = true := by
  by_cases h : cmdWellFormed v = true
  · obtain ⟨-, hd⟩ | ⟨-, hd⟩ | ⟨-, hd⟩ | ⟨n, -, hd⟩ := decodeCmd_of_cmdWellFormed h <;> rw [hd] <;> rfl
  · rw [decodeCmd_of_not_cmdWellFormed h]
    simpa [Instr.wellFormed] using mt cmdWellFormed_of_definedCommandWord h

theorem encode_decodeRead : ∀ addr : BitVec 8, encode (decodeRead addr) = .bus (busReadWord addr) := by decide +kernel

theorem wellFormed_decodeRead : ∀ addr : BitVec 8, (decodeRead addr).wellFormed = true := by decide +kernel

/-- Each row of the write column is encoded with its own offset. -/
theorem encode_decodeWrite (addr : BitVec 8) (data : Word) :
    encode (decodeWrite addr data) = .bus (busWriteWord addr data) := by
  unfold decodeWrite
  split
  · rfl
  · split
    case h_29 => rfl
    all_goals exact congrArg (fun a => Request.bus (busWriteWord a data)) (BitVec.eq_of_toNat_eq (Eq.symm ‹_›))

/-- The two columns name the same offsets (R106). -/
theorem wellFormed_decodeWrite (addr : BitVec 8) (data : Word) :
    (decodeWrite addr data).wellFormed = (decodeRead addr).wellFormed := by
  unfold decodeWrite decodeRead
  split
  · rfl
  · split <;> simp [*, Instr.wellFormed]

/-- The row of the write column does not depend on DATA (R106). -/
theorem mnemonic_decodeWrite (addr : BitVec 8) (data data' : Word) :
    (decodeWrite addr data).mnemonic = (decodeWrite addr data').mnemonic := by
  unfold decodeWrite
  split
  · rfl
  · split <;> simp [*, Instr.mnemonic]

section
variable {w : BitVec 41}

theorem busWriteWord_of_busWr (h : busWr w = true) : busWriteWord (busAddr w) (busData w) = w := by
  have := w.isLt
  rw [busWr_eq, decide_eq_true_iff] at h
  apply BitVec.eq_of_toNat_eq
  rw [busWriteWord_toNat, busAddr_toNat, busData_toNat]
  omega

theorem decodeBus_of_busWr (h : busWr w = true) : decodeBus w = decodeWrite (busAddr w) (busData w) := if_pos h

theorem decodeBus_of_not_busWr (h : busWr w = false) : decodeBus w = decodeRead (busAddr w) := by simp [decodeBus, h]

end

/-- Settles O4: command words by the rows of R103, BUS words by the column WR selects. -/
theorem everyTransactionReadsAsOneInstruction : Obligations.EveryTransactionReadsAsOneInstruction := by
  refine ⟨fun r => ?_, encode_decodeCmd, fun w h => ?_, fun w h => ?_⟩
  · cases r with
    | cmd v => exact wellFormed_decodeCmd v
    | bus w =>
      rw [decodeRequest]
      cases h : busWr w with
      | false => rw [decodeBus_of_not_busWr h, wellFormed_decodeRead]
      | true => rw [decodeBus_of_busWr h, wellFormed_decodeWrite, wellFormed_decodeRead]
  · rw [decodeBus_of_busWr h, encode_decodeWrite, busWriteWord_of_busWr h]
  · rw [decodeBus_of_not_busWr h, encode_decodeRead]

/-! ### The opcode table (R103, R106) -/

theorem firstRow_cmdRows (v : BitVec 32) : firstRow cmdRows v.toNat = some (decodeCmd v).mnemonic := by
  by_cases h : cmdWellFormed v = true
  · obtain ⟨rfl, hd⟩ | ⟨rfl, hd⟩ | ⟨rfl, hd⟩ | ⟨n, rfl, hd⟩ := decodeCmd_of_cmdWellFormed h <;> rw [hd]
    · decide
    · decide
    · decide
    · exact rowName_final n
  · rw [decodeCmd_of_not_cmdWellFormed h]
    exact rowName_cmdIllegal v (by simpa using mt cmdWellFormed_of_definedCommandWord h)

/-- The read half of the table, offset by offset. -/
theorem firstRow_readColumn :
    ∀ addr : BitVec 8, firstRow busRows (addr.toNat * 2 ^ 32) = some (decodeRead addr).mnemonic := by decide +kernel

/-- The write half of the table, offset by offset. -/
theorem firstRow_writeColumn :
    ∀ addr : BitVec 8, firstRow busRows ((256 + addr.toNat) * 2 ^ 32) = some (decodeWrite addr 0#32).mnemonic := by
  decide +kernel

/-- Settles O3: the row of a BUS word is that of its WR and ADDR, so the two columns are compared at each offset. -/
theorem decodersFollowTheOpcodeTable : Obligations.DecodersFollowTheOpcodeTable := by
  refine ⟨firstRow_cmdRows, fun w => ?_⟩
  have hw := w.isLt
  have haddr := busAddr_toNat w
  have hwr := busWr_eq w
  rw [firstRow_busRows]
  cases h : busWr w with
  | false =>
    rw [h, eq_comm, decide_eq_false_iff_not] at hwr
    rw [decodeBus_of_not_busWr h, ← firstRow_readColumn, show w.toNat / 2 ^ 32 % 512 = (busAddr w).toNat by omega]
  | true =>
    rw [h, eq_comm, decide_eq_true_iff] at hwr
    rw [decodeBus_of_busWr h, mnemonic_decodeWrite _ _ 0#32, ← firstRow_writeColumn,
      show w.toNat / 2 ^ 32 % 512 = 256 + (busAddr w).toNat by omega]

end Sys2Proof.Proofs
end

/-! PROOFS about the padding stage of 40_padding.md: the zero-fill count, the five clauses of the padding contract, and
the agreement of `Pad` with the hardware's `Tail`. -/

namespace Sys2Proof.Proofs

open Sys2Proof.Machine

variable {m : List Byte}

/-! ### The zero-fill count (R131, R133) -/

theorem zeroFill_lt (len : Nat) : zeroFill len < 64 := Nat.mod_lt _ (by decide)

theorem length_with_zeroFill (len : Nat) : len + 1 + zeroFill len + 8 = 64 * ((len + 8) / 64 + 1) := by
  unfold zeroFill
  omega

/-- R136's zero bytes are as many as R131's. -/
theorem tailLength_sub_eq_zeroFill (len : Nat) : tailLength (len % 64) - len % 64 - 9 = zeroFill len := by
  unfold tailLength zeroFill
  split <;> omega

/-- Settles O48: two counts that fill a block agree modulo 64, and Z is below 64. -/
theorem zeroFillIsMinimal : Obligations.ZeroFillIsMinimal := by
  intro len
  have hlen := length_with_zeroFill len
  have hlt := zeroFill_lt len
  refine ⟨by omega, fun z hz => ?_, hlen⟩
  have hmod : z % 64 = zeroFill len := by omega
  exact hmod ▸ Nat.mod_le z 64

/-! ### The bytes of `Pad` (R132, R135) -/

@[simp] theorem length_zeros (n : Nat) : (zeros n).length = n := List.length_replicate

@[simp] theorem length_ser64 (v : BitVec 64) : (ser64 v).length = 8 := rfl

/-- The eight bytes of `ser64`, read as a big-endian number, give the value back (00_scope.md R13). -/
theorem foldl_ser64 (v : BitVec 64) : (ser64 v).foldl (fun acc b => acc * 256 + b.toNat) 0 = v.toNat := by
  have := v.isLt
  simp only [ser64, List.foldl, BitVec.extractLsb'_toNat, Nat.shiftRight_eq_div_pow]
  omega

theorem pad_of_lt (h : 8 * m.length < 2 ^ 64) :
    pad m = some (m ++ [0x80#8] ++ zeros (zeroFill m.length) ++ ser64 (BitVec.ofNat 64 (8 * m.length))) :=
  if_pos h

theorem pad_of_not_lt (h : ¬8 * m.length < 2 ^ 64) : pad m = none := if_neg h

/-- Settles O47: the marker, the zeros and the length field are found at the places their lengths put them. -/
theorem padMeetsItsContract : Obligations.PadMeetsItsContract := by
  refine fun m => ⟨fun h => ⟨_, pad_of_lt h, ?_⟩, pad_of_not_lt⟩
  have hlen := length_with_zeroFill m.length
  generalize zeroFill m.length = z at hlen
  have hfield : (m ++ [0x80#8] ++ zeros z).length = m.length + 1 + z := by simp; omega
  rw [List.length_append, length_ser64, hfield]
  refine ⟨by omega, by simp, by simp, fun k hlo hhi => ?_, ?_⟩
  · rw [List.getElem?_append_left (by omega), List.getElem?_append_right (by simp; omega)]
    exact List.getElem?_replicate_of_lt (by simp; omega)
  · rw [Nat.add_sub_cancel, List.drop_left' hfield, foldl_ser64, BitVec.toNat_ofNat, Nat.mod_eq_of_lt h]

/-! ### Agreement with `Tail` (R138) -/

/-- Settles O49: M is its full blocks and its last chunk, and the zeros of `Pad` and `Tail` are equally many. -/
theorem padIsFullBlocksThenTail : Obligations.PadIsFullBlocksThenTail := by
  intro m h
  have hsplit : m.take (64 * (m.length / 64)) ++ lastChunk m = m := List.take_append_drop _ _
  rw [pad_of_lt (by omega), tail, tailLength_sub_eq_zeroFill]
  simp only [← List.append_assoc, hsplit]

end Sys2Proof.Proofs

/-! PROOFS about the compression of 41_compression.md: the finished schedule, the constants and functions of the
sub-passes, the bytes of the digest, and two digests of the source. -/

namespace Sys2Proof.Proofs

open Sys2Proof.Machine Sys2Proof.Laws

/-! ### The schedule (R153 to R155) -/

section
variable {w w' : Sched} {i j m n : Nat}

theorem expandedWord_eq_rotateLeft (w : Sched) (j : Nat) :
    expandedWord w j =
      (schedWord w (j - 16) ^^^ schedWord w (j - 14) ^^^ schedWord w (j - 8) ^^^ schedWord w (j - 3)).rotateLeft 1 :=
  rotl_eq_rotateLeft (by decide)

/-- An expansion reads only entries below the one it writes. -/
theorem expandedWord_congr (h : ∀ i, i < j → schedWord w i = schedWord w' i) (hj : 0 < j) :
    expandedWord w j = expandedWord w' j := by
  unfold expandedWord
  rw [h (j - 16) (by omega), h (j - 14) (by omega), h (j - 8) (by omega), h (j - 3) (by omega)]

theorem schedWord_expandN_succ (i : Nat) (hn : n < 64) :
    schedWord (expandN (n + 1) w) i =
      if i = 16 + n then expandedWord (expandN n w) (16 + n) else schedWord (expandN n w) i :=
  schedWord_expandAt i (by omega)

/-- The entries below 16 + m are final after m expansions. -/
theorem schedWord_expandN_of_lt (hmn : m ≤ n) (hn : n ≤ 64) (hi : i < 16 + m) :
    schedWord (expandN n w) i = schedWord (expandN m w) i := by
  induction n, hmn using Nat.le_induction with
  | base => rfl
  | succ n hmn ih => rw [schedWord_expandN_succ i (by omega), if_neg (by omega), ih (by omega)]

/-- Expansion m leaves in entry 16 + m a value that the finished entries below it determine. -/
theorem schedWord_expandN_eq_expandedWord (hmn : m < n) (hn : n ≤ 64) :
    schedWord (expandN n w) (16 + m) = expandedWord (expandN n w) (16 + m) :=
  calc schedWord (expandN n w) (16 + m)
      = schedWord (expandN (m + 1) w) (16 + m) := schedWord_expandN_of_lt hmn hn (by omega)
    _ = expandedWord (expandN m w) (16 + m) := by rw [schedWord_expandN_succ _ (by omega), if_pos rfl]
    _ = expandedWord (expandN n w) (16 + m) :=
      expandedWord_congr (fun _ hi => (schedWord_expandN_of_lt hmn.le hn hi).symm) (by omega)

end

/-- Settles O46: entries 0 to 15 stand since the load, and entry j since expansion j - 16. -/
theorem scheduleMeetsItsRecurrence : Obligations.ScheduleMeetsItsRecurrence := by
  refine fun b => ⟨fun i hi => ?_, fun j hlo hhi => ?_⟩
  · exact (schedWord_expandN_of_lt (Nat.zero_le 64) le_rfl hi).trans (schedWord_loadSchedule hi)
  · rw [← expandedWord_eq_rotateLeft]
    obtain ⟨m, rfl⟩ := Nat.exists_eq_add_of_le hlo
    exact schedWord_expandN_eq_expandedWord (by omega) le_rfl

/-! ### The sub-passes (R151, R152) -/

/-- Settles O39: each range of t selects one branch of `roundK` and the same one of `roundF`. -/
theorem subPassesUseTheirConstantAndFunction : Obligations.SubPassesUseTheirConstantAndFunction := by
  refine fun t b c d => ⟨fun _ => ?_, fun _ _ => ?_, fun _ _ => ?_, fun _ _ => ?_⟩
  · simp (disch := omega) only [roundK, roundF, if_pos, ch, and_self]
  · simp (disch := omega) only [roundK, roundF, if_neg, if_pos, parity, and_self]
  · simp (disch := omega) only [roundK, roundF, if_neg, if_pos, maj, and_self]
  · simp (disch := omega) only [roundK, roundF, if_neg, parity, and_self]

/-! ### The digest (R161) -/

@[simp] theorem length_ser32 (w : Word) : (ser32 w).length = 4 := rfl

theorem getElem?_ser32 (w : Word) {k : Nat} (hk : k < 4) : (ser32 w)[k]? = some (w.extractLsb' (24 - 8 * k) 8) := by
  obtain rfl | rfl | rfl | rfl : k = 0 ∨ k = 1 ∨ k = 2 ∨ k = 3 := by omega
  all_goals rfl

/-- Words serialised one after another hold byte k of word i at 4i + k. -/
theorem getElem?_flatMap_ser32 (ws : List Word) (i : Nat) {k : Nat} (hk : k < 4) :
    (ws.flatMap ser32)[4 * i + k]? = ws[i]?.map (·.extractLsb' (24 - 8 * k) 8) := by
  induction ws generalizing i with
  | nil => rfl
  | cons w ws ih =>
    rw [List.flatMap_cons]
    cases i with
    | zero =>
      rw [List.getElem?_append_left (by simp; omega), Nat.mul_zero, Nat.zero_add, getElem?_ser32 w hk]
      rfl
    | succ i =>
      rw [List.getElem?_append_right (by simp; omega), length_ser32, show 4 * (i + 1) + k - 4 = 4 * i + k by omega, ih,
        List.getElem?_cons_succ]

theorem digest_eq_flatMap (h : FiveWords) : digest h = [h.a, h.b, h.c, h.d, h.e].flatMap ser32 := rfl

/-- Settles O50: the digest is its five words, serialised one after another. -/
theorem digestSerializesBigEndian : Obligations.DigestSerializesBigEndian := by
  refine fun h => ⟨rfl, fun i k hi hk => ?_⟩
  rw [digest_eq_flatMap, getElem?_flatMap_ser32 _ _ hk, List.getD_eq_getElem _ _ hi, List.getElem?_eq_getElem hi]
  rfl

/-- Settles O51: both messages pad to one block, and the kernel runs its 80 rounds. -/
theorem knownDigests : Obligations.KnownDigests := by
  unfold Obligations.KnownDigests
  exact ⟨by decide +kernel, by decide +kernel⟩

end Sys2Proof.Proofs

/-! PROOFS about the engine of 42_engine.md: what each of its steps does, the turns that are left until Q is empty, and
the 146 turns of a block, which compute `Compress`. -/

namespace Sys2Proof.Proofs

open Sys2Proof.Machine Sys2Proof.Laws

variable {s t u : State} {b : Block} {rest : List Block} {n : Nat}

/-! ### One step (R182 to R185) -/

/-- Inside the schedule `schedWord` is the entry itself. -/
theorem schedWord_eq_getElem (w : Sched) {i : Nat} (h : i < 80) : schedWord w i = w[i] := by
  simp [schedWord, h]

/-- Settles O36: `loadSchedule` puts in the block's words and keeps the other entries. -/
theorem loadCopiesTheHeadBlock : Obligations.LoadCopiesTheHeadBlock := by
  intro b rest s hq hp
  refine ⟨loadSchedule b s.w, engineStep_load hq hp, fun i h => ?_, fun i h hge => ?_⟩
  · rw [← schedWord_eq_getElem, schedWord_loadSchedule h]
  · rw [← schedWord_eq_getElem, ← schedWord_eq_getElem, schedWord_loadSchedule_of_ge hge h]

/-- Settles O37: `expandAt` writes the recurrence's value into entry j and keeps the other entries. -/
theorem expandWritesOneScheduleWord : Obligations.ExpandWritesOneScheduleWord := by
  intro s hq hp hj
  refine ⟨expandAt s.j s.w, engineStep_expand hq hp hj, ?_, fun i h hne => ?_⟩
  · simp only [← schedWord_eq_getElem]
    rw [schedWord_expandAt _ (by omega), if_pos rfl, expandedWord_eq_rotateLeft]
  · rw [← schedWord_eq_getElem, ← schedWord_eq_getElem, schedWord_expandAt i (by omega), if_neg hne]

/-- Settles O38: `round` is R156's tuple, with `rotl` the library's rotation. -/
theorem roundUpdatesTheWorkingVariables : Obligations.RoundUpdatesTheWorkingVariables := by
  intro s hq hp ht
  rw [engineStep_round hq hp ht, engineRound, Machine.round, rotl_eq_rotateLeft (by decide),
    rotl_eq_rotateLeft (by decide), schedWord_eq_getElem]

/-- Settles O40: ACCUM calls completion exactly when it pops the last block. -/
theorem accumFinishesTheBlock : Obligations.AccumFinishesTheBlock := by
  intro b rest s hq hp
  rw [engineStep_accum hq hp]
  cases rest with
  | nil =>
    have hdone : (s.done || (s.fin && !s.err)) = if s.fin = true ∧ s.err = false then true else s.done := by
      cases s.done <;> simp
    exact ⟨fun h => absurd rfl h, fun _ => by rw [← hdone]; rfl⟩
  | cons c rest => exact ⟨fun _ => rfl, nofun⟩

/-- Settles O41: no operation of the engine names one of these fields. -/
theorem engineWritesOnlyItsOwnState : Obligations.EngineWritesOnlyItsOwnState := by
  intro s t h
  obtain ⟨-, rfl⟩ | ⟨b, rest, -, -, rfl⟩ | ⟨-, -, -, -, rfl⟩ | ⟨-, -, -, rfl⟩ | ⟨b, rest, -, -, rfl⟩ :=
    engineStep_cases h
  case inr.inr.inr.inr => simp
  all_goals exact ⟨rfl, rfl, rfl, rfl, rfl, rfl, rfl, rfl⟩

/-! ### The turns left until Q is empty (R190) -/

/-- The turns left for the head block, by the phase and its counter. -/
def headTurnsLeft (s : State) : Nat :=
  match s.phase with
  | .idle => 0
  | .load => 146
  | .expand => 161 - s.j
  | .round => 81 - s.t
  | .accum => 1

/-- The turns left until Q is empty: 146 for each block behind the head. -/
def turnsLeft (s : State) : Nat := headTurnsLeft s + 146 * (s.q.length - 1)

theorem turnsLeft_of_empty (hs : StateInv s) (hq : s.q = []) : turnsLeft s = 0 := by
  simp [turnsLeft, headTurnsLeft, hs.idle_iff_empty.mpr hq, hq]

theorem turnsLeft_le (hs : StateInv s) : turnsLeft s ≤ 292 := by
  have hj := hs.expansion_index.1
  have hlen := hs.queue_length
  have hhead : headTurnsLeft s ≤ 146 := by unfold headTurnsLeft; split <;> omega
  unfold turnsLeft
  omega

/-- With a block in Q the engine moves, and one turn fewer is left. -/
theorem engineStep_of_queued (hs : StateInv s) (hq : s.q ≠ []) :
    ∃ t, engineStep s = .next t ∧ turnsLeft s = turnsLeft t + 1 := by
  obtain ⟨b, rest, hb⟩ := List.exists_cons_of_ne_nil hq
  cases hp : s.phase with
  | idle => exact absurd (hs.idle_iff_empty.mp hp) hq
  | load => exact ⟨_, engineStep_load hb hp, by simp +arith [turnsLeft, headTurnsLeft, hp]⟩
  | expand =>
    have hj := hs.expand_enabled hp
    have ht := hs.expand_before_rounds hp
    refine ⟨_, engineStep_expand hq hp ⟨hs.expansion_index.1, hj⟩, ?_⟩
    by_cases hlast : s.j = 79
    · simp +arith [turnsLeft, headTurnsLeft, hp, hlast, ht]
    · simp [turnsLeft, headTurnsLeft, hp, hlast]
      omega
  | round =>
    have ht := hs.round_enabled hp
    refine ⟨_, engineStep_round hq hp ht, ?_⟩
    by_cases hlast : s.t = 79
    · simp +arith [turnsLeft, headTurnsLeft, hp, hlast]
    · simp [turnsLeft, headTurnsLeft, hp, hlast]
      omega
  | accum =>
    refine ⟨_, engineStep_accum hb hp, ?_⟩
    cases rest with
    | nil => simp [turnsLeft, headTurnsLeft, hp, hb]
    | cons c rest => simp +arith [turnsLeft, headTurnsLeft, hp, hb]

/-- Settles O42: with a block in Q the number of turns left falls, so the state changes. -/
theorem engineMovesExactlyWhenQueued : Obligations.EngineMovesExactlyWhenQueued := by
  refine fun s hs => ⟨engineStep_of_empty, fun hq => ?_⟩
  obtain ⟨t, ht, hleft⟩ := engineStep_of_queued hs hq
  refine ⟨t, ht, ?_⟩
  rintro rfl
  omega

theorem engineTurns_of_engineStep (h : engineStep s = .next u) : engineTurns (n + 1) s = engineTurns n u := by
  simp [engineTurns, h]

/-- Taking the turns that are left empties Q. -/
theorem engineTurns_turnsLeft (hs : StateInv s) :
    ∃ t, engineTurns (turnsLeft s) s = .next t ∧ StateInv t ∧ t.q = [] := by
  induction hn : turnsLeft s generalizing s with
  | zero =>
    refine ⟨s, rfl, hs, by_contra fun hq => ?_⟩
    obtain ⟨t, -, hleft⟩ := engineStep_of_queued hs hq
    omega
  | succ n ih =>
    have hq : s.q ≠ [] := fun hq => by simp [turnsLeft_of_empty hs hq] at hn
    obtain ⟨u, hu, hleft⟩ := engineStep_of_queued hs hq
    rw [engineTurns_of_engineStep hu]
    exact ih (stateInv_engineStep hs hu) (by omega)

/-- Settles O44: the turns left are at most 292, and with Q empty the invariant gives BUSY = 0 and phase IDLE. -/
theorem engineFinishesQueuedWork : Obligations.EngineFinishesQueuedWork := by
  intro s hs
  obtain ⟨t, ht, hinv, hq⟩ := engineTurns_turnsLeft hs
  have hbusy : t.busy = false := by simpa [hq] using hinv.busy_iff_queued
  exact ⟨turnsLeft s, t, turnsLeft_le hs, ht, hbusy, hq, hinv.idle_iff_empty.mpr hq⟩

/-! ### The 146 turns of a block (R187) -/

/-- Expansions read only entries the load or an earlier expansion wrote, so a stale schedule leaves no trace. -/
theorem schedWord_expandN_congr {w w' : Sched} (h : ∀ i, i < 16 → schedWord w i = schedWord w' i) (hn : n ≤ 64) :
    ∀ i, i < 16 + n → schedWord (expandN n w) i = schedWord (expandN n w') i := by
  induction n with
  | zero => exact h
  | succ n ih =>
    intro i hi
    specialize ih (by omega)
    rw [schedWord_expandN_succ i (by omega), schedWord_expandN_succ i (by omega), expandedWord_congr ih (by omega)]
    split
    · rfl
    · exact ih i (by omega)

/-- Loading a block over any schedule and expanding gives the block's schedule. -/
theorem expandN_loadSchedule (b : Block) (w : Sched) : expandN 64 (loadSchedule b w) = schedule b := by
  refine sched_ext (schedWord_expandN_congr (fun i hi => ?_) le_rfl)
  rw [schedWord_loadSchedule hi, schedWord_loadSchedule hi]

/-- The state after LOAD of b and n EXPANDs. -/
def afterExpansions (b : Block) (n : Nat) (s : State) : State :=
  { s with
    w := expandN n (loadSchedule b s.w)
    wv := s.h
    t := 0
    j := 16 + n
    phase := if n = 64 then .round else .expand }

/-- The state after LOAD of b, all EXPANDs and n ROUNDs. -/
def afterRounds (b : Block) (n : Nat) (s : State) : State :=
  { s with
    w := schedule b
    wv := roundN n (schedule b) s.h
    t := n
    j := 80
    phase := if n = 80 then .accum else .round }

theorem engineExpand_afterExpansions (b : Block) (n : Nat) (s : State) :
    engineExpand (afterExpansions b n s) = afterExpansions b (n + 1) s := by
  simp +arith [engineExpand, afterExpansions, expandN]

theorem engineRound_afterRounds (b : Block) (n : Nat) (s : State) :
    engineRound (afterRounds b n s) = afterRounds b (n + 1) s := by
  simp [engineRound, afterRounds, roundN]

theorem afterExpansions_all (b : Block) (s : State) : afterExpansions b 64 s = afterRounds b 0 s := by
  simp [afterExpansions, afterRounds, expandN_loadSchedule, roundN]

section
variable (hq : s.q = b :: rest) (hp : s.phase = .load)
include hq hp

theorem engineTurns_expansions (hn : n ≤ 64) : engineTurns (n + 1) s = .next (afterExpansions b n s) := by
  induction n with
  | zero => exact engineTurns_of_engineStep (engineStep_load hq hp)
  | succ n ih =>
    rw [engineTurns_succ (ih (by omega)), ← engineExpand_afterExpansions]
    refine engineStep_expand ?_ ?_ ?_
    · simp [afterExpansions, hq]
    · simp [afterExpansions, show n ≠ 64 by omega]
    · simp only [afterExpansions]
      omega

theorem engineTurns_rounds (hn : n ≤ 80) : engineTurns (n + 65) s = .next (afterRounds b n s) := by
  induction n with
  | zero => rw [← afterExpansions_all]; exact engineTurns_expansions hq hp le_rfl
  | succ n ih =>
    rw [Nat.add_right_comm, engineTurns_succ (ih (by omega)), ← engineRound_afterRounds]
    refine engineStep_round ?_ ?_ ?_
    · simp [afterRounds, hq]
    · simp [afterRounds, show n ≠ 80 by omega]
    · exact Nat.le_of_lt_succ hn

/-- A whole block: ACCUM on the state after the 80 rounds. -/
theorem engineTurns_block : engineTurns 146 s = .next (engineAccum rest (afterRounds b 80 s)) := by
  rw [engineTurns_succ (engineTurns_rounds hq hp le_rfl)]
  exact engineStep_accum hq rfl

/-- No turn before ACCUM writes H, Q, BUSY or DONE. -/
theorem engineTurns_before_accum (hn : n < 146) :
    ∃ t, engineTurns n s = .next t ∧ t.h = s.h ∧ t.q = s.q ∧ t.busy = s.busy ∧ t.done = s.done := by
  obtain rfl | ⟨m, hm, rfl⟩ | ⟨m, hm, rfl⟩ : n = 0 ∨ (∃ m ≤ 64, n = m + 1) ∨ ∃ m ≤ 80, n = m + 65 := by
    obtain h | h := Nat.lt_or_ge n 66
    · cases n with
      | zero => exact .inl rfl
      | succ m => exact .inr (.inl ⟨m, by omega, rfl⟩)
    · exact .inr (.inr ⟨n - 65, by omega, by omega⟩)
  · exact ⟨s, rfl, rfl, rfl, rfl, rfl⟩
  · exact ⟨_, engineTurns_expansions hq hp hm, rfl, rfl, rfl, rfl⟩
  · exact ⟨_, engineTurns_rounds hq hp hm, rfl, rfl, rfl, rfl⟩

end

/-- Settles O43: the working variables after 80 rounds over the block's schedule are added into H, and whether the queue
is then empty decides between LOAD and completion. -/
theorem engineSequenceComputesCompress : Obligations.EngineSequenceComputesCompress := by
  refine fun b rest s hq hp => ⟨fun n => engineTurns_before_accum hq hp, _, engineTurns_block hq hp, ?_⟩
  have hh : (engineAccum rest (afterRounds b 80 s)).h = compress s.h b := engineAccum_h _ rest
  refine ⟨hh, engineAccum_q _ rest, fun hne => ?_, fun hnil => ?_, ?_⟩
  · simp [hne, afterRounds]
  · simp [hnil, afterRounds]
  · simp [afterRounds]

end Sys2Proof.Proofs

/-! PROOFS about the commands of 43_commands.md: the words a command needs, the outcome of each check, and the command
write as R201's list of them. -/

namespace Sys2Proof.Proofs

open Sys2Proof.Machine Sys2Proof.Laws

variable {s : State} {n : Nat}

/-! ### The words a command needs (R201, R207) -/

theorem haveWords_iff {mvalid need : BitVec 16} :
    haveWords mvalid need = true ↔ ∀ i, need.getLsbD i = true → mvalid.getLsbD i = true := by
  rw [haveWords, beq_iff_eq]
  refine ⟨fun h i hi => ?_, fun h => BitVec.eq_of_getLsbD_eq fun i _ => ?_⟩
  · rw [← h, BitVec.getLsbD_and, Bool.and_eq_true] at hi
    exact hi.1
  · rw [BitVec.getLsbD_and, Bool.and_eq_right_iff_imp]
    exact h i

theorem haveWords_blockNeed_iff {mvalid : BitVec 16} : haveWords mvalid blockNeed = true ↔ mvalid = 0xFFFF#16 := by
  rw [haveWords, blockNeed, show 0xFFFF#16 = BitVec.allOnes 16 from rfl, BitVec.and_allOnes, beq_iff_eq]

/-- FINAL n needs the words that hold a byte of its chunk. -/
theorem getLsbD_finalNeed (hn : n ≤ 63) (i : Nat) : (finalNeed n).getLsbD i = decide (4 * i < n) := by
  rw [finalNeed, BitVec.getLsbD_ofNat, Nat.testBit_two_pow_sub_one, ← Bool.decide_and, decide_eq_decide]
  omega

theorem haveWords_finalNeed_iff {mvalid : BitVec 16} (hn : n ≤ 63) :
    haveWords mvalid (finalNeed n) = true ↔ ∀ i, 4 * i < n → mvalid.getLsbD i = true := by
  simp only [haveWords_iff, getLsbD_finalNeed hn, decide_eq_true_eq]

/-! ### The outcome of the checks (R201, R208, R209) -/

theorem raiseError_eq (c : ErrorCode) (s : State) :
    raiseError c s = { s with err := true, errcode := if s.err then s.errcode else errorNumber c } := by
  obtain ⟨he, e⟩ | ⟨he, e⟩ := raiseError_cases c s
  · rw [e, if_pos he, ← he]
  · rw [e, he]
    rfl

section
variable {need : BitVec 16} {overflow : Bool} {accept : State → State}

theorem checkedAccept_of_busy (hb : s.busy = true) : checkedAccept need overflow accept s = raiseError .cmdBusy s := by
  simp [checkedAccept, hb]

theorem checkedAccept_of_err (hb : s.busy = false) (he : s.err = true) : checkedAccept need overflow accept s = s := by
  simp [checkedAccept, hb, he]

section
variable (hb : s.busy = false) (he : s.err = false)
include hb he

theorem checkedAccept_of_done (hd : s.done = true) :
    checkedAccept need overflow accept s = { s with err := true, errcode := 5#4 } := by
  simp [checkedAccept, hb, he, hd, raiseError, errorNumber]

theorem checkedAccept_of_missing (hd : s.done = false) (hw : haveWords s.mvalid need = false) :
    checkedAccept need overflow accept s = { s with err := true, errcode := 4#4 } := by
  simp [checkedAccept, hb, he, hd, hw, raiseError, errorNumber]

theorem checkedAccept_of_overflow (hd : s.done = false) (hw : haveWords s.mvalid need = true) :
    checkedAccept need true accept s = { s with err := true, errcode := 6#4 } := by
  simp [checkedAccept, hb, he, hd, hw, raiseError, errorNumber]

end
end

theorem exec_init_of_idle (hb : s.busy = false) : exec .init s = answerWrite (initSession s) .okay := by
  simp [exec, execInit, hb]

theorem exec_block_accepts (hb : s.busy = false) (he : s.err = false) (hd : s.done = false) (hw : s.mvalid = 0xFFFF#16)
    (hl : s.len ≠ lenLimit) : exec .block s = answerWrite (acceptBlock s) .okay :=
  congrArg (answerWrite · .okay)
    (checkedAccept_accepts hb he hd (haveWords_blockNeed_iff.2 hw) (beq_eq_false_iff_ne.2 hl))

theorem exec_final_accepts {n : BitVec 6} (hb : s.busy = false) (he : s.err = false) (hd : s.done = false)
    (hw : ∀ i, 4 * i < n.toNat → s.mvalid.getLsbD i = true) :
    exec (.final n) s = answerWrite (acceptFinal n.toNat s) .okay :=
  congrArg (answerWrite · .okay)
    (checkedAccept_accepts hb he hd ((haveWords_finalNeed_iff (Nat.le_of_lt_succ n.isLt)).2 hw) rfl)

/-- Settles O20: NOP's meaning is its response, and the word 0 passes the checks only up to OP = 0x00. -/
theorem nopHasNoEffect : Obligations.NopHasNoEffect := fun _ => ⟨rfl, rfl⟩

/-- Settles O21: `initSession` is R203's assignment. -/
theorem initStartsASession : Obligations.InitStartsASession := fun _ hb => exec_init_of_idle hb

/-- Settles O22: no check refuses, and `acceptBlock` is R204's assignment. -/
theorem blockQueuesTheBuffer : Obligations.BlockQueuesTheBuffer :=
  fun _ hb he hd hw hl => exec_block_accepts hb he hd hw hl

/-- Settles O25: busy is the first check of all three. -/
theorem commandWhileBusyRecordsCmdBusy : Obligations.CommandWhileBusyRecordsCmdBusy := by
  intro n s i hb hi
  have hx : exec i s = answerWrite (raiseError .cmdBusy s) .okay := by
    simp only [List.mem_cons, List.not_mem_nil, or_false] at hi
    obtain rfl | rfl | rfl := hi
    · simp [exec, execInit, hb]
    · exact congrArg (answerWrite · .okay) (checkedAccept_of_busy hb)
    · exact congrArg (answerWrite · .okay) (checkedAccept_of_busy hb)
  rw [hx, raiseError_eq]
  rfl

/-- A BLOCK or a FINAL is a checked acceptance. -/
theorem exec_block_or_final {n : BitVec 6} {i : Instr} (hi : i ∈ [Instr.block, .final n]) (s : State) :
    ∃ need overflow accept, exec i s = answerWrite (checkedAccept need overflow accept s) .okay := by
  simp only [List.mem_cons, List.not_mem_nil, or_false] at hi
  obtain rfl | rfl := hi <;> exact ⟨_, _, _, rfl⟩

/-- Settles O26: the errored session is the check after busy. -/
theorem erroredSessionIgnoresBlockAndFinal : Obligations.ErroredSessionIgnoresBlockAndFinal := by
  intro n s i hb he hi
  obtain ⟨_, _, _, hx⟩ := exec_block_or_final hi s
  rw [hx, checkedAccept_of_err hb he]
  rfl

/-- Settles O27: the masks say which words are missing, and each clause fails the check of its own code after passing
those before it. -/
theorem refusedCommandRecordsTheFirstError : Obligations.RefusedCommandRecordsTheFirstError := by
  intro n s hb he
  refine ⟨fun hd i hi => ?_, fun hd hw => ?_, fun hd hw => ?_, fun hd hw hl => ?_⟩
  · obtain ⟨_, _, _, hx⟩ := exec_block_or_final hi s
    rw [hx, checkedAccept_of_done hb he hd]
    rfl
  · have hmissing : haveWords s.mvalid blockNeed = false := by
      rwa [← Bool.not_eq_true, haveWords_blockNeed_iff]
    exact congrArg (answerWrite · .okay) (checkedAccept_of_missing hb he hd hmissing)
  · have hmissing : haveWords s.mvalid (finalNeed n.toNat) = false := by
      rw [← Bool.not_eq_true, haveWords_finalNeed_iff (Nat.le_of_lt_succ n.isLt)]
      simpa using hw
    exact congrArg (answerWrite · .okay) (checkedAccept_of_missing hb he hd hmissing)
  · have hfull : (s.len == lenLimit) = true := beq_iff_eq.2 hl
    rw [exec, execBlock, hfull, checkedAccept_of_overflow hb he hd (haveWords_blockNeed_iff.2 hw)]
    rfl

/-! ### The command write (R200, R201) -/

theorem commandWrite_of_not_cmdWellFormed {v : Word} (h : ¬cmdWellFormed v = true) (s : State) :
    commandWrite v s = raiseError .illegalCmd s := by
  simp [commandWrite, h]

theorem commandWrite_final (n : BitVec 6) (s : State) :
    commandWrite (cmdWord 0x03#8 n) s = checkedAccept (finalNeed n.toNat) false (acceptFinal n.toNat) s := by
  simp [commandWrite, checkedAccept, cmdWellFormed]

/-- Settles O18: R201's list, followed for an ill-formed word and for each of the four commands. -/
theorem wrCmdDoesWhatItsCommandDoes : Obligations.WrCmdDoesWhatItsCommandDoes := by
  intro v s
  by_cases hwf : cmdWellFormed v = true
  · obtain ⟨rfl, hd⟩ | ⟨rfl, hd⟩ | ⟨rfl, hd⟩ | ⟨n, rfl, hd⟩ := decodeCmd_of_cmdWellFormed hwf
    all_goals rw [hd]
    case inr.inr.inr => exact congrArg (answerWrite · .okay) (commandWrite_final n s)
    all_goals rfl
  · rw [decodeCmd_of_not_cmdWellFormed hwf]
    exact congrArg (answerWrite · .okay) (commandWrite_of_not_cmdWellFormed hwf s)

/-- Settles O19: none of the outcomes of the checks names one of these fields. -/
theorem wrCmdAlwaysAnswersOkay : Obligations.WrCmdAlwaysAnswersOkay := by
  intro v s
  refine ⟨_, rfl, rfl, ?_⟩
  obtain ⟨c, e⟩ | e | ⟨-, -, -, e⟩ | ⟨-, -, -, -, -, e⟩ | ⟨n, -, -, -, -, e⟩ := commandWrite_cases v s
  all_goals simp [e]

/-- Settles O24: the numbers say that the word is not well formed, R201's first check. -/
theorem illegalWordRecordsIllegalCmd : Obligations.IllegalWordRecordsIllegalCmd := by
  intro v s h
  rw [← cmdWellFormed_iff_toNat] at h
  refine ⟨?_, congrArg (answerWrite · .okay) (commandWrite_of_not_cmdWellFormed h s)⟩
  rw [exec, execCmdIllegal, raiseError_eq]
  rfl

/-- Settles O28: both clauses are arithmetic on numbers below 2^64. -/
theorem lengthCheckIsExact : Obligations.LengthCheckIsExact := by
  refine ⟨fun s n hmax hn => ⟨finalLength_toNat hmax hn, by omega⟩, fun len hmod => ?_⟩
  rw [← BitVec.toNat_inj, show lenLimit.toNat = 2 ^ 64 - 512 from rfl]
  have := len.isLt
  omega

end Sys2Proof.Proofs

/-! PROOFS about bytes and blocks: the chunk and the tail that FINAL queues (40_padding.md R136 to R139; 43_commands.md
R206), and the blocks of a padded message (41_compression.md R160). -/

namespace Sys2Proof.Proofs

open Sys2Proof.Machine Sys2Proof.Laws

variable {n : Nat} {bytes c : List Byte}

/-! ### The bytes of a block (40_padding.md R139, R137; 43_commands.md R206) -/

/-- Byte k of a big-endian word is byte k of the four it was made of. -/
theorem extractLsb'_be32 (bytes : List Byte) (i : Nat) {k : Nat} (hk : k < 4) :
    (be32 bytes i).extractLsb' (24 - 8 * k) 8 = byteAt bytes (i + k) := by
  rw [be32]
  obtain rfl | rfl | rfl | rfl : k = 0 ∨ k = 1 ∨ k = 2 ∨ k = 3 := by omega
  all_goals
    refine BitVec.eq_of_getLsbD_eq fun j hj => ?_
    simp only [BitVec.getLsbD_extractLsb', BitVec.getLsbD_append]
    simp +arith [hj]

theorem byteAt_take_drop {i j : Nat} (hj : j < n) : byteAt ((bytes.drop i).take n) j = byteAt bytes (i + j) := by
  simp [byteAt, hj]

/-- A byte string is its bytes in order. -/
theorem map_byteAt_range (bytes : List Byte) : (List.range bytes.length).map (byteAt bytes) = bytes := by
  refine List.ext_getElem (by simp) fun i _ hi => ?_
  simp [byteAt, hi]

/-- Words that hold a byte string's be32 values hold its bytes as their chunk. -/
theorem chunk_eq_of_words {msg : Block} (hc : c.length ≤ 64)
    (h : ∀ i (hi : i < 16), 4 * i < c.length → msg[i] = be32 c (4 * i)) : chunk msg c.length = c := by
  conv_rhs => rw [← map_byteAt_range c]
  refine List.map_congr_left fun k hk => ?_
  have hk : k < c.length := List.mem_range.1 hk
  have hi : k / 4 < 16 := by omega
  rw [chunkByte, Vector.getElem?_eq_getElem hi, Option.getD_some, h _ hi (by omega),
    extractLsb'_be32 _ _ (Nat.mod_lt k (by decide)), Nat.div_add_mod]

theorem chunk_eq_take_blockBytes (b : Block) (hn : n ≤ 64) : chunk b n = (blockBytes b).take n := by
  refine List.ext_getElem? fun k => ?_
  by_cases hk : k < n
  · have hi : k / 4 < 16 := by omega
    have hb : b.toList[k / 4]? = some b[k / 4] := by simp [hi]
    rw [List.getElem?_take_of_lt hk, blockBytes, ← Nat.div_add_mod k 4,
      getElem?_flatMap_ser32 _ _ (Nat.mod_lt k (by decide)), Nat.div_add_mod, hb]
    simp [chunk, chunkByte, hk, hi]
  · rw [List.getElem?_eq_none (by simp [chunk]; omega), List.getElem?_eq_none (by simp; omega)]

@[simp] theorem length_blockBytes (b : Block) : (blockBytes b).length = 64 := by
  simp [blockBytes, List.length_flatMap]

@[simp] theorem length_chunk (msg : Block) (n : Nat) : (chunk msg n).length = n := by simp [chunk]

/-- The words of a block are its bytes, four at a time. -/
theorem getElem_blockAt (bytes : List Byte) (k : Nat) {i : Nat} (hi : i < 16) :
    (blockAt bytes k)[i] = be32 bytes (64 * k + 4 * i) := by
  simp [blockAt]

theorem blockBytes_blockAt_zero (hc : c.length = 64) : blockBytes (blockAt c 0) = c :=
  calc blockBytes (blockAt c 0)
      = (blockBytes (blockAt c 0)).take 64 := by rw [List.take_of_length_le (by simp)]
    _ = chunk (blockAt c 0) c.length := by rw [hc, chunk_eq_take_blockBytes _ le_rfl]
    _ = c := chunk_eq_of_words hc.le fun i hi _ => by rw [getElem_blockAt]; simp

/-- Block k of a byte string is the block of its 64 bytes from 64k on. -/
theorem blockAt_eq_blockAt_zero (bytes : List Byte) (k : Nat) :
    blockAt bytes k = blockAt ((bytes.drop (64 * k)).take 64) 0 := by
  refine Vector.ext fun i hi => ?_
  rw [getElem_blockAt, getElem_blockAt, be32, be32]
  simp (disch := omega) only [byteAt_take_drop, Nat.mul_zero, Nat.zero_add, Nat.add_assoc]

theorem length_tail (hn : n ≤ 63) (hc : c.length = n) (lb : BitVec 64) : (tail c n lb).length = tailLength n := by
  simp [tail, tailLength, hc]
  split <;> omega

theorem flatMap_blockBytes_tailBlocks (hb : bytes.length = tailLength n) :
    (tailBlocks bytes n).flatMap blockBytes = bytes := by
  unfold tailLength at hb
  unfold tailBlocks
  split at hb
  next hn => rw [if_pos hn, List.flatMap_singleton, blockBytes_blockAt_zero hb]
  next hn =>
    rw [if_neg hn, blockAt_eq_blockAt_zero bytes 0, blockAt_eq_blockAt_zero bytes 1, List.flatMap_cons,
      List.flatMap_singleton, blockBytes_blockAt_zero (by simp [hb]), blockBytes_blockAt_zero (by simp [hb]),
      List.take_of_length_le (i := 64) (l := bytes.drop (64 * 1)) (by simp [hb])]
    exact List.take_append_drop 64 bytes

/-- Settles O23: the chunk is the first n bytes of MSG, and the tail's blocks hold the tail's bytes. -/
theorem finalQueuesThePaddedTail : Obligations.FinalQueuesThePaddedTail := by
  intro n s hb he hd hw
  have hn : n.toNat ≤ 63 := Nat.le_of_lt_succ n.isLt
  refine ⟨_, exec_final_accepts hb he hd hw, ?_, ?_⟩
  · rw [acceptFinal_q, tailBlocks]
    split <;> rfl
  · rw [acceptFinal_q, flatMap_blockBytes_tailBlocks (length_tail hn (length_chunk _ _) _),
      chunk_eq_take_blockBytes _ (by omega)]
    rfl

/-! ### The blocks of a padded message (40_padding.md R138; 41_compression.md R160) -/

theorem blocksOf_append {x : List Byte} {k : Nat} (hx : x.length = 64 * k) (y : List Byte) :
    blocksOf (x ++ y) = blocksOf x ++ blocksOf y := by
  have hlen : (x ++ y).length / 64 = k + y.length / 64 := by rw [List.length_append, hx]; omega
  have hk : x.length / 64 = k := by omega
  rw [blocksOf, blocksOf, blocksOf, hlen, hk, List.range_add, List.map_append, List.map_map]
  refine congrArg₂ (· ++ ·) ?_ ?_
  · refine List.map_congr_left fun i hi => ?_
    have hi : i < k := List.mem_range.1 hi
    rw [blockAt_eq_blockAt_zero, blockAt_eq_blockAt_zero x, List.drop_append_of_le_length (by omega),
      List.take_append_of_le_length (by simp; omega)]
  · refine List.map_congr_left fun i _ => ?_
    rw [Function.comp, blockAt_eq_blockAt_zero, blockAt_eq_blockAt_zero y, Nat.mul_add, ← hx, List.drop_append,
      List.drop_of_length_le (by omega), List.nil_append, Nat.add_sub_cancel_left]

theorem blocksOf_eq_tailBlocks (hb : c.length = tailLength n) : blocksOf c = tailBlocks c n := by
  unfold tailLength at hb
  unfold tailBlocks blocksOf
  split at hb
  next hn => rw [if_pos hn, hb]; rfl
  next hn => rw [if_neg hn, hb]; rfl

/-- The full blocks of a message, as the host sends them. -/
theorem blocksOf_take (m : List Byte) :
    blocksOf (m.take (64 * (m.length / 64))) = (fullBlocks m).map (blockAt · 0) := by
  have hlen : (m.take (64 * (m.length / 64))).length / 64 = m.length / 64 := by simp; omega
  rw [blocksOf, hlen, fullBlocks, List.map_map]
  refine List.map_congr_left fun k hk => ?_
  have hk : k < m.length / 64 := List.mem_range.1 hk
  rw [Function.comp, blockAt_eq_blockAt_zero, List.drop_take, List.take_take, Nat.min_eq_left (by omega)]

theorem length_lastChunk (m : List Byte) : (lastChunk m).length = m.length % 64 := by
  simp [lastChunk]
  omega

/-- The digest of a message is that of its full blocks and of the blocks of its tail. -/
theorem sha1_eq_digest {m : List Byte} (h : m.length ≤ 2 ^ 61 - 1) :
    sha1 m = some (digest (compressAll (compressAll iv ((fullBlocks m).map (blockAt · 0)))
      (tailBlocks (tail (lastChunk m) (m.length % 64) (BitVec.ofNat 64 (8 * m.length))) (m.length % 64)))) := by
  have htail := length_tail (by omega) (length_lastChunk m) (BitVec.ofNat 64 (8 * m.length))
  have hfull : (m.take (64 * (m.length / 64))).length = 64 * (m.length / 64) := by simp; omega
  rw [sha1, padIsFullBlocksThenTail m (by omega), Option.map_some, blocksOf_append hfull, blocksOf_take,
    blocksOf_eq_tailBlocks htail, compressAll, List.foldl_append]
  rfl

end Sys2Proof.Proofs

/-! PROOFS about the canonical host sequence of 43_commands.md R210: with Q empty a transaction acts alone, waiting lets
the engine empty Q, and so every part of the sequence has a run and all its runs end alike. -/

namespace Sys2Proof.Proofs

open Sys2Proof.Machine Sys2Proof.Laws

variable {s t u v : State} {n : Nat} {c : List Byte} {i : Instr} {P Q : State → Prop} {R R' : State → State → Prop}

/-! ### Transactions of an idle block (43_commands.md R210; 42_engine.md R181) -/

theorem act_request (hi : i.wellFormed = true) : act (.request (encode i)) s = exec i s := by
  rw [act, step_of_request rfl, decodeRequest_encode hi]

theorem stateInv_exec (hs : StateInv s) (h : exec i s = .next t) : StateInv t := by
  obtain ⟨u, r, he, rfl⟩ := exec_cases h
  exact stateInv_with_rsp (stateInv_effect hs he) (some r)

theorem empty_of_idle (hs : StateInv s) (hb : s.busy = false) : s.q = [] := by
  simpa [hb] using hs.busy_iff_queued

theorem idle_of_empty (hs : StateInv s) (hq : s.q = []) : s.busy = false := by
  simpa [hq] using hs.busy_iff_queued

/-- With Q empty the engine's turns before a transaction change nothing. -/
theorem sends_iff_of_empty (hi : i.wellFormed = true) (hq : s.q = []) : Sends i s t ↔ exec i s = .next t := by
  refine ⟨fun h => ?_, fun h => .now ((act_request hi).trans h)⟩
  induction h with
  | now h => rwa [act_request hi] at h
  | engine h _ ih =>
    cases (engineStep_of_empty hq).symm.trans h
    exact ih hq

/-! ### Waiting for the engine (30_encoding.md R113; 42_engine.md R190) -/

/-- The engine's turns lead from the first state to the second, where Q is empty. -/
inductive Drains : State → State → Prop where
  /-- Q is empty already. -/
  | done {s : State} (hq : s.q = []) : Drains s s
  /-- The engine has a turn, then the others. -/
  | turn {s v u : State} (h : engineStep s = .next v) (k : Drains v u) : Drains s u

theorem Drains.empty_at_end (h : Drains s u) : u.q = [] := by
  induction h with
  | done hq => exact hq
  | turn _ _ ih => exact ih

theorem Drains.stateInv (h : Drains s u) (hs : StateInv s) : StateInv u := by
  induction h with
  | done => exact hs
  | turn h _ ih => exact ih (stateInv_engineStep hs h)

theorem Drains.eq_of_empty (h : Drains s u) (hq : s.q = []) : u = s := by
  induction h with
  | done => rfl
  | turn h _ ih =>
    cases (engineStep_of_empty hq).symm.trans h
    exact ih hq

/-- Any turn of the engine is the first of those that empty Q. -/
theorem Drains.after_engineStep (h : Drains s u) (hv : engineStep s = .next v) : Drains v u := by
  cases h with
  | done hq =>
    cases (engineStep_of_empty hq).symm.trans hv
    exact .done hq
  | turn h k =>
    cases h.symm.trans hv
    exact k

theorem drains_of_engineTurns (h : engineTurns n s = .next v) (hv : Drains v u) : Drains s u := by
  induction n generalizing s with
  | zero =>
    cases h
    exact hv
  | succ n ih =>
    unfold engineTurns at h
    split at h
    next hx => exact .turn hx (ih h)
    all_goals contradiction

theorem exists_drains (hs : StateInv s) : ∃ u, Drains s u := by
  obtain ⟨u, hu, -, hq⟩ := engineTurns_turnsLeft hs
  exact ⟨u, drains_of_engineTurns hu (.done hq)⟩

/-- The engine does not read the response. -/
theorem engineStep_with_rsp (h : engineStep s = .next t) (r : Option Response) :
    engineStep { s with rsp := r } = .next { t with rsp := r } := by
  obtain ⟨hq, rfl⟩ | ⟨b, rest, hq, hp, rfl⟩ | ⟨hq, hp, hj, hj', rfl⟩ | ⟨hq, hp, ht, rfl⟩ | ⟨b, rest, hq, hp, rfl⟩ :=
    engineStep_cases h
  · exact engineStep_of_empty hq
  · exact engineStep_load hq hp
  · exact engineStep_expand hq hp ⟨hj, hj'⟩
  · exact engineStep_round hq hp ht
  · rw [engineStep_accum (s := { s with rsp := r }) hq hp]
    cases rest <;> rfl

theorem Drains.with_rsp (h : Drains s u) (r : Option Response) : Drains { s with rsp := r } { u with rsp := r } := by
  induction h with
  | done hq => exact .done hq
  | turn h _ ih => exact .turn (engineStep_with_rsp h r) ih

/-- A transaction acts on some state on the engine's way to the empty Q. -/
theorem Sends.exists_exec (h : Sends i s t) (hi : i.wellFormed = true) (hs : StateInv s) (hd : Drains s u) :
    ∃ v, StateInv v ∧ Drains v u ∧ exec i v = .next t := by
  induction h with
  | now h => exact ⟨_, hs, hd, (act_request hi).symm.trans h⟩
  | engine h _ ih => exact ih (stateInv_engineStep hs h) (hd.after_engineStep h)

/-- The host may let the engine empty Q before its transaction. -/
theorem Drains.sends (hd : Drains s u) (hi : i.wellFormed = true) (h : exec i u = .next t) : Sends i s t := by
  induction hd with
  | done => exact .now ((act_request hi).trans h)
  | turn hx _ ih => exact .engine hx (ih h)

/-- However often the host polls, it stops waiting when Q is empty, and has then read STATUS. -/
theorem waitsIdle_iff (hs : StateInv s) (hd : Drains s u) :
    WaitsIdle s t ↔ t = { u with rsp := some (.read u.status .okay) } := by
  constructor
  · intro h
    induction h generalizing u with
    | last h hr hb =>
      obtain ⟨v, hv, hvu, hx⟩ := Sends.exists_exec h rfl hs hd
      cases hx
      cases hr
      rw [status_busy_bit] at hb
      rw [hvu.eq_of_empty (empty_of_idle hv hb)]
    | again h _ _ _ ih =>
      obtain ⟨v, hv, hvu, hx⟩ := Sends.exists_exec h rfl hs hd
      cases hx
      have hend := ih (stateInv_with_rsp hv _) (hvu.with_rsp _)
      exact hend
  · rintro rfl
    refine .last (hd.sends rfl rfl) rfl ?_
    rw [status_busy_bit, idle_of_empty (hd.stateInv hs) hd.empty_at_end]

theorem compressAll_cons (h : FiveWords) (b : Block) (bs : List Block) :
    compressAll h (b :: bs) = compressAll (compress h b) bs :=
  List.foldl_cons (f := compress)

/-- From LOAD the engine compresses every block in Q into H, then completes (42_engine.md R186, R187). -/
theorem exists_drains_of_load (hq : s.q ≠ []) (hp : s.phase = .load) :
    ∃ u, Drains s u ∧ u.h = compressAll s.h s.q ∧ u.done = (s.done || (s.fin && !s.err)) ∧ u.err = s.err ∧
      u.len = s.len := by
  induction hs : s.q generalizing s with
  | nil => exact absurd hs hq
  | cons b rest ih =>
    obtain ⟨-, v, hv, hh, hvq, hmore, hlast, hlen, -, -, -, herr, -⟩ := engineSequenceComputesCompress b rest s hs hp
    cases rest with
    | nil =>
      obtain ⟨-, -, hdone, -⟩ := hlast rfl
      exact ⟨v, drains_of_engineTurns hv (.done hvq), hh, hdone, herr, hlen⟩
    | cons c rest =>
      obtain ⟨hvp, -, hvdone, hvfin⟩ := hmore (List.cons_ne_nil _ _)
      obtain ⟨u, hu, huh, hudone, huerr, hulen⟩ := ih (by simp [hvq]) hvp hvq
      refine ⟨u, drains_of_engineTurns hv hu, ?_, ?_, huerr.trans herr, hulen.trans hlen⟩
      · rw [huh, hh, ← compressAll_cons]
      · rw [hudone, hvdone, hvfin, herr]

/-! ### Runs that exist and always end as they should -/

/-- From s there is a run of R, and every run of R ends in a state with Q. -/
def Ensures (R : State → State → Prop) (s : State) (Q : State → Prop) : Prop := (∃ t, R s t) ∧ ∀ t, R s t → Q t

theorem Ensures.comp (h : Ensures R s P) (h' : ∀ u, P u → Ensures R' u Q) : Ensures (Relation.Comp R R') s Q := by
  obtain ⟨⟨u, hu⟩, hP⟩ := h
  obtain ⟨t, ht⟩ := (h' u (hP u hu)).1
  exact ⟨⟨t, u, hu, ht⟩, fun t ⟨u, hu, ht⟩ => (h' u (hP u hu)).2 t ht⟩

theorem Ensures.mono (h : Ensures R s P) (hPQ : ∀ t, P t → Q t) : Ensures R s Q := ⟨h.1, fun t ht => hPQ t (h.2 t ht)⟩

theorem ensures_of_iff (h : ∀ t, R s t ↔ t = u) (hu : Q u) : Ensures R s Q :=
  ⟨⟨u, (h u).2 rfl⟩, fun t ht => (h t).1 ht ▸ hu⟩

/-- A write to an idle block has its effect, and nothing else happens. -/
theorem ensures_sends (hi : i.wellFormed = true) (hs : StateInv s) (hb : s.busy = false)
    (hx : exec i s = answerWrite u .okay) :
    Ensures (Sends i) s (fun t => StateInv t ∧ t = { u with rsp := some (.write .okay) }) := by
  refine ensures_of_iff (fun t => ?_) ⟨stateInv_exec hs hx, rfl⟩
  rw [sends_iff_of_empty hi (empty_of_idle hs hb), hx, answerWrite_eq_next]

theorem ensures_waitsIdle (hs : StateInv s) : Ensures WaitsIdle s (fun t => StateInv t ∧ t.busy = false) := by
  obtain ⟨u, hu⟩ := exists_drains hs
  have hinv := hu.stateInv hs
  have hidle : u.busy = false := idle_of_empty hinv hu.empty_at_end
  exact ensures_of_iff (fun t => waitsIdle_iff hs hu) ⟨stateInv_with_rsp hinv _, hidle⟩

/-- A block with no work and no error: the values of DONE, H and LEN its session has come to. -/
structure IdleSession (done : Bool) (h : FiveWords) (bits : Nat) (s : State) : Prop where
  /-- The invariant of reachable states (10_state.md R55). -/
  inv : StateInv s
  /-- BUSY = 0. -/
  idle : s.busy = false
  /-- ERR = 0. -/
  no_error : s.err = false
  /-- DONE. -/
  done_eq : s.done = done
  /-- H[0..4]. -/
  state : s.h = h
  /-- LEN, as a number of bits. -/
  length : s.len.toNat = bits

/-- Waiting after an acceptance: every queued block goes into H, and DONE rises after a FINAL. -/
theorem ensures_waitsIdle_of_load (hs : StateInv s) (hq : s.q ≠ []) (hp : s.phase = .load) (he : s.err = false)
    (hd : s.done = false) :
    Ensures WaitsIdle s (IdleSession s.fin (compressAll s.h s.q) s.len.toNat) := by
  obtain ⟨u, hu, hh, hdone, herr, hlen⟩ := exists_drains_of_load hq hp
  have hinv := hu.stateInv hs
  have hidle : u.busy = false := idle_of_empty hinv hu.empty_at_end
  have hfin : u.done = s.fin := by simp [hdone, hd, he]
  exact ensures_of_iff (fun t => waitsIdle_iff hs hu)
    ⟨stateInv_with_rsp hinv _, hidle, herr.trans he, hfin, hh, congrArg BitVec.toNat hlen⟩

/-- An accepted BLOCK or FINAL, and the wait for its blocks. -/
theorem ensures_accepted (hi : i.wellFormed = true) (hs : StateInv s) (hb : s.busy = false)
    (hx : exec i s = answerWrite u .okay) (hq : u.q ≠ []) (hp : u.phase = .load) (he : u.err = false)
    (hd : u.done = false) :
    Ensures (Relation.Comp (Sends i) WaitsIdle) s (IdleSession u.fin (compressAll u.h u.q) u.len.toNat) := by
  refine (ensures_sends hi hs hb hx).comp ?_
  rintro t ⟨hinv, rfl⟩
  exact ensures_waitsIdle_of_load hinv hq hp he hd

section
variable {h : FiveWords} {bits k : Nat}

theorem exec_initWrite (hb : s.busy = false) : exec initWrite s = answerWrite (initSession s) .okay :=
  (wrCmdDoesWhatItsCommandDoes 0x00000001#32 s).trans (exec_init_of_idle hb)

theorem ensures_init (hs : StateInv s) (hb : s.busy = false) :
    Ensures (Sends initWrite) s (IdleSession false iv 0) := by
  refine (ensures_sends rfl hs hb (exec_initWrite hb)).mono ?_
  rintro t ⟨hinv, rfl⟩
  exact ⟨hinv, hb, rfl, rfl, rfl, rfl⟩

/-! ### `ldmsg` (30_encoding.md R113) -/

/-- MSG holds the first k words of a byte string, and MVALID says so. -/
def WordsLoaded (c : List Byte) (k : Nat) (s : State) : Prop :=
  ∀ i (hi : i < 16), i < k → s.msg[i] = be32 c (4 * i) ∧ s.mvalid.getLsbD i = true

theorem wellFormed_wrMsgAt (i : Nat) (w : Word) : (wrMsgAt i w).wellFormed = true := by
  unfold wrMsgAt
  split <;> rfl

theorem exec_wrMsgAt (i : Fin 16) (w : Word) (s : State) :
    exec (wrMsgAt i.val w) s = answerWrite (writeMsg i w s) .okay := by
  fin_cases i <;> rfl

theorem getLsbD_setValid (mvalid : BitVec 16) {i k : Nat} (hi : i < 16) :
    (setValid mvalid k).getLsbD i = (mvalid.getLsbD i || decide (i = k)) := by
  simp [setValid, hi]

theorem ensures_wrMsgAt (hs : IdleSession false h bits s) (hl : WordsLoaded c k s) (hk : k < 16) :
    Ensures (Sends (wrMsgAt k (be32 c (4 * k)))) s (fun t => IdleSession false h bits t ∧ WordsLoaded c (k + 1) t) := by
  have hx := (exec_wrMsgAt ⟨k, hk⟩ (be32 c (4 * k)) s).trans (congrArg (answerWrite · .okay) (writeMsg_of_idle hs.idle))
  refine (ensures_sends (wellFormed_wrMsgAt _ _) hs.inv hs.idle hx).mono ?_
  rintro t ⟨hinv, rfl⟩
  refine ⟨{ hs with inv := hinv }, fun i hi hik => ?_⟩
  obtain rfl | hlt : i = k ∨ i < k := by omega
  · simp [getLsbD_setValid _ hi]
  · obtain ⟨hmsg, hvalid⟩ := hl i hi hlt
    simp [getLsbD_setValid _ hi, hvalid, hmsg, show k ≠ i by omega]

theorem sendsAll_concat (is : List Instr) (i : Instr) :
    SendsAll (is ++ [i]) = Relation.Comp (SendsAll is) (Sends i) := by
  induction is with
  | nil => funext s t; simp [SendsAll, Relation.Comp]
  | cons j is ih =>
    funext s t
    simp only [List.cons_append, SendsAll, ih, Relation.Comp]
    grind

theorem ensures_ldmsg (hs : IdleSession false h bits s) (hc : c.length ≤ 64) :
    Ensures (SendsAll (ldmsg c)) s
      (fun t => IdleSession false h bits t ∧ WordsLoaded c ((c.length + 3) / 4) t) := by
  unfold ldmsg
  have hk : (c.length + 3) / 4 ≤ 16 := by omega
  generalize (c.length + 3) / 4 = k at hk
  induction k with
  | zero => exact ensures_of_iff (fun t => eq_comm) ⟨hs, fun i _ hi => absurd hi (Nat.not_lt_zero i)⟩
  | succ k ih =>
    rw [List.range_succ, List.map_append, List.map_singleton, sendsAll_concat]
    exact (ih (by omega)).comp fun u ⟨hu, hl⟩ => ensures_wrMsgAt hu hl hk

/-! ### BLOCK and FINAL, each with its wait -/

theorem mvalid_of_wordsLoaded (hl : WordsLoaded c 16 s) : s.mvalid = 0xFFFF#16 :=
  haveWords_blockNeed_iff.1 (haveWords_iff.2 fun i hi => (hl i (BitVec.lt_of_getLsbD hi) (BitVec.lt_of_getLsbD hi)).2)

theorem ensures_block (hs : IdleSession false h bits s) (hl : WordsLoaded c 16 s) (hbits : bits + 512 < 2 ^ 64) :
    Ensures (Relation.Comp (Sends blockWrite) WaitsIdle) s
      (IdleSession false (compress h (blockAt c 0)) (bits + 512)) := by
  have hroom : s.len ≠ lenLimit := fun e => by
    have := hs.length
    rw [e, show lenLimit.toNat = 2 ^ 64 - 512 from rfl] at this
    omega
  have hmsg : s.msg = blockAt c 0 := Vector.ext fun i hi => by
    rw [(hl i hi hi).1, getElem_blockAt, Nat.mul_zero, Nat.zero_add]
  have hlen : (s.len + 512#64).toNat = bits + 512 := by
    rw [BitVec.toNat_add, hs.length, BitVec.toNat_ofNat]
    omega
  have hx : exec blockWrite s = answerWrite (acceptBlock s) .okay :=
    (wrCmdDoesWhatItsCommandDoes 0x00000002#32 s).trans
      (exec_block_accepts hs.idle hs.no_error hs.done_eq (mvalid_of_wordsLoaded hl) hroom)
  rw [← hlen, ← hs.state, ← hmsg]
  exact ensures_accepted rfl hs.inv hs.idle hx (List.cons_ne_nil _ _) rfl hs.no_error hs.done_eq

theorem finalWrite_eq : ∀ n : BitVec 6, finalWrite n.toNat = .wrCmd (cmdWord 0x03#8 n) := by decide +kernel

theorem ensures_final {n : BitVec 6} (hs : IdleSession false h bits s) (hc : c.length = n.toNat)
    (hl : WordsLoaded c ((c.length + 3) / 4) s) :
    Ensures (Relation.Comp (Sends (finalWrite n.toNat)) WaitsIdle) s
      (IdleSession true
        (compressAll h (tailBlocks (tail c n.toNat (BitVec.ofNat 64 (bits + 8 * n.toNat))) n.toNat))
        (bits + 8 * n.toNat)) := by
  have hn : n.toNat ≤ 63 := Nat.le_of_lt_succ n.isLt
  have hmax := (hs.inv.len_open hs.idle hs.done_eq hs.no_error).2
  have hlen : (finalLength s n.toNat).toNat = bits + 8 * n.toNat := by rw [finalLength_toNat hmax hn, hs.length]
  have hchunk : chunk s.msg n.toNat = c := by
    rw [← hc]
    exact chunk_eq_of_words (by omega) fun i hi hlt => (hl i hi (by omega)).1
  have hneed (i : Nat) (hi : 4 * i < n.toNat) : s.mvalid.getLsbD i = true := (hl i (by omega) (by omega)).2
  have hx : exec (finalWrite n.toNat) s = answerWrite (acceptFinal n.toNat s) .okay := by
    rw [finalWrite_eq, wrCmdDoesWhatItsCommandDoes, decodeCmd_final]
    exact exec_final_accepts hs.idle hs.no_error hs.done_eq hneed
  rw [← hlen, BitVec.ofNat_toNat, BitVec.setWidth_eq, ← hs.state, ← hchunk]
  exact ensures_accepted rfl hs.inv hs.idle hx (by simp [tailBlocks_ne_nil]) rfl hs.no_error hs.done_eq

/-! ### The whole sequence (43_commands.md R210) -/

theorem sendsBlocks_cons (c : List Byte) (rest : List (List Byte)) :
    SendsBlocks (c :: rest) =
      Relation.Comp (SendsAll (ldmsg c))
        (Relation.Comp (Relation.Comp (Sends blockWrite) WaitsIdle) (SendsBlocks rest)) := by
  funext s t
  simp only [SendsBlocks, Relation.Comp]
  grind

/-- Every full block goes into H while LEN has room. -/
theorem ensures_sendsBlocks (cs : List (List Byte)) (hs : IdleSession false h bits s) (hcs : ∀ c ∈ cs, c.length = 64)
    (hbits : bits + 512 * cs.length < 2 ^ 64) :
    Ensures (SendsBlocks cs) s
      (IdleSession false (compressAll h (cs.map (blockAt · 0))) (bits + 512 * cs.length)) := by
  induction cs generalizing s h bits with
  | nil => exact ensures_of_iff (fun t => eq_comm) hs
  | cons c rest ih =>
    have hc : c.length = 64 := hcs c List.mem_cons_self
    rw [List.length_cons, Nat.mul_succ, ← Nat.add_assoc, Nat.add_right_comm] at hbits ⊢
    rw [sendsBlocks_cons, List.map_cons, compressAll_cons]
    refine (ensures_ldmsg hs hc.le).comp fun u ⟨hu, hl⟩ => ?_
    rw [hc] at hl
    refine (ensures_block hu hl (by omega)).comp fun v hv => ?_
    exact ih hv (fun c hc => hcs c (List.mem_cons_of_mem _ hc)) hbits

end

/-- The canonical sequence for m up to its five reads. -/
def CanonicalHashing (m : List Byte) : State → State → Prop :=
  Relation.Comp WaitsIdle <| Relation.Comp (Sends initWrite) <| Relation.Comp (SendsBlocks (fullBlocks m)) <|
    Relation.Comp (SendsAll (ldmsg (lastChunk m))) <| Relation.Comp (Sends (finalWrite (m.length % 64))) WaitsIdle

/-- The five reads at the end of the canonical sequence. -/
def ReadsDigest (d : FiveWords) : State → State → Prop :=
  Relation.Comp (ReadsWord .rdDigest0 d.a) <| Relation.Comp (ReadsWord .rdDigest1 d.b) <|
    Relation.Comp (ReadsWord .rdDigest2 d.c) <| Relation.Comp (ReadsWord .rdDigest3 d.d) (ReadsWord .rdDigest4 d.e)

theorem canonicalRun_iff {m : List Byte} {d : FiveWords} :
    CanonicalRun m s t d ↔ ∃ u, CanonicalHashing m s u ∧ ReadsDigest d u t := by
  constructor
  · rintro ⟨s0, s1, s2, s3, s4, u, r0, r1, r2, r3, h0, h1, h2, h3, h4, h5, ha, hb, hc, hd, he⟩
    exact ⟨u, ⟨s0, h0, s1, h1, s2, h2, s3, h3, s4, h4, h5⟩, r0, ha, r1, hb, r2, hc, r3, hd, he⟩
  · rintro ⟨u, ⟨s0, h0, s1, h1, s2, h2, s3, h3, s4, h4, h5⟩, r0, ha, r1, hb, r2, hc, r3, hd, he⟩
    exact ⟨s0, s1, s2, s3, s4, u, r0, r1, r2, r3, h0, h1, h2, h3, h4, h5, ha, hb, hc, hd, he⟩

theorem length_of_mem_fullBlocks {m c : List Byte} (hc : c ∈ fullBlocks m) : c.length = 64 := by
  obtain ⟨k, hk, rfl⟩ := List.mem_map.1 hc
  have hk : k < m.length / 64 := List.mem_range.1 hk
  simp
  omega

/-- Up to the reads every run leaves H at the words of Sha1(m). -/
theorem ensures_canonicalHashing {m : List Byte} (hm : m.length ≤ 2 ^ 61 - 1) (hs : StateInv s) :
    Ensures (CanonicalHashing m) s
      (fun u => IdleSession true u.h (8 * m.length) u ∧ sha1 m = some (digest u.h)) := by
  have hcount : (fullBlocks m).length = m.length / 64 := by simp [fullBlocks]
  have hrem : (BitVec.ofNat 6 (m.length % 64)).toNat = m.length % 64 := by simp
  have hlast := length_lastChunk m
  refine (ensures_waitsIdle hs).comp fun s0 ⟨hs0, hb0⟩ => (ensures_init hs0 hb0).comp fun s1 h1 => ?_
  refine (ensures_sendsBlocks _ h1 (fun _ => length_of_mem_fullBlocks) (by omega)).comp fun s2 h2 => ?_
  refine (ensures_ldmsg h2 (by omega)).comp fun s3 ⟨h3, hl⟩ => ?_
  rw [← hrem]
  refine (ensures_final h3 (by rw [hlast, hrem]) hl).mono fun u hu => ?_
  rw [hrem, show 0 + 512 * (fullBlocks m).length + 8 * (m.length % 64) = 8 * m.length by omega] at hu
  exact ⟨{ hu with state := rfl }, by rw [hu.state]; exact sha1_eq_digest hm⟩

/-- A read of an idle block answers its word, and changes nothing else. -/
theorem readsWord_iff {w d : Word} (hi : i.wellFormed = true) (hq : s.q = []) (hx : exec i s = answerRead s w .okay) :
    ReadsWord i d s t ↔ t = { s with rsp := some (.read w .okay) } ∧ d = w := by
  rw [ReadsWord, sends_iff_of_empty hi hq, hx, answerRead_eq_next]
  refine and_congr_right fun ht => ?_
  simp [ht, eq_comm]

section
variable {h d : FiveWords} {bits : Nat} {w : Word} (hs : IdleSession true h bits s)
include hs

/-- With DONE = 1 a DIGEST read answers its word of H, whatever was answered before. -/
theorem readsDigestWord_iff (word : FiveWords → Word) (hi : i.wellFormed = true)
    (hx : ∀ s, exec i s = answerRead s (digestWord s (word s.h)) .okay) (before : Option Response) :
    ReadsWord i w { s with rsp := before } t ↔ t = { s with rsp := some (.read (word h) .okay) } ∧ w = word h := by
  have hq : s.q = [] := empty_of_idle hs.inv hs.idle
  rw [← hs.state]
  exact readsWord_iff hi hq ((hx _).trans (congrArg (answerRead _ · .okay) (if_pos hs.done_eq)))

theorem comp_readsDigestWord_iff (word : FiveWords → Word) (hi : i.wellFormed = true)
    (hx : ∀ s, exec i s = answerRead s (digestWord s (word s.h)) .okay) (before : Option Response) :
    Relation.Comp (ReadsWord i w) R { s with rsp := before } t ↔
      w = word h ∧ R { s with rsp := some (.read (word h) .okay) } t := by
  simp only [Relation.Comp, readsDigestWord_iff hs word hi hx, and_assoc, exists_eq_left]

theorem readsDigest_iff : ReadsDigest d s t ↔ t = { s with rsp := some (.read h.e .okay) } ∧ d = h := by
  refine (comp_readsDigestWord_iff hs FiveWords.a rfl (fun _ => rfl) s.rsp).trans ?_
  rw [comp_readsDigestWord_iff hs (i := .rdDigest1) FiveWords.b rfl (fun _ => rfl),
    comp_readsDigestWord_iff hs (i := .rdDigest2) FiveWords.c rfl (fun _ => rfl),
    comp_readsDigestWord_iff hs (i := .rdDigest3) FiveWords.d rfl (fun _ => rfl),
    readsDigestWord_iff hs (i := .rdDigest4) FiveWords.e rfl (fun _ => rfl)]
  obtain ⟨da, db, dc, dd, de⟩ := d
  obtain ⟨ha, hb, hc, hd, he⟩ := h
  rw [FiveWords.mk.injEq]
  tauto

end

/-- Settles O58: every part of the sequence has a run, and every run of it leaves the block where R210 says. -/
theorem canonicalSequenceHashesTheMessage : Obligations.CanonicalSequenceHashesTheMessage := by
  intro m s hm hs
  obtain ⟨⟨u, hu⟩, hall⟩ := ensures_canonicalHashing hm hs
  obtain ⟨hsession, -⟩ := hall u hu
  refine ⟨⟨_, _, canonicalRun_iff.2 ⟨u, hu, (readsDigest_iff hsession).2 ⟨rfl, rfl⟩⟩⟩, fun t d hrun => ?_⟩
  obtain ⟨v, hv, hreads⟩ := canonicalRun_iff.1 hrun
  obtain ⟨hsession, hsha⟩ := hall v hv
  obtain ⟨rfl, rfl⟩ := (readsDigest_iff hsession).1 hreads
  exact ⟨hsession.idle, hsession.done_eq, hsession.no_error, hsession.length, hsha⟩

end Sys2Proof.Proofs

/-! PROOFS about the register accesses of 44_register_access.md: the word each read answers, what each write stores or
refuses, and the accesses that reach no register. -/

namespace Sys2Proof.Proofs

open Sys2Proof.Machine Sys2Proof.Laws

variable {addr : BitVec 8}

/-! ### Reads (R232 to R240) -/

/-- Settles O8: the two meanings answer constants. -/
theorem rdIdAndRdCmdAnswerConstants : Obligations.RdIdAndRdCmdAnswerConstants := fun _ => ⟨rfl, rfl⟩

/-- The concatenation of STATUS is R42's packing by shifts. -/
theorem status_eq_shifts (s : State) :
    s.status = (s.errcode.setWidth 32 <<< 4) ||| ((BitVec.ofBool s.err).setWidth 32 <<< 2) |||
      ((BitVec.ofBool s.done).setWidth 32 <<< 1) ||| (BitVec.ofBool s.busy).setWidth 32 := by
  have packed : ∀ (code : BitVec 4) (err done busy : Bool),
      (code ++ (0#1 ++ (flagBit err ++ (flagBit done ++ flagBit busy)))).setWidth 32 =
        (code.setWidth 32 <<< 4) ||| ((BitVec.ofBool err).setWidth 32 <<< 2) |||
          ((BitVec.ofBool done).setWidth 32 <<< 1) ||| (BitVec.ofBool busy).setWidth 32 := by decide
  exact packed s.errcode s.err s.done s.busy

/-- Settles O9: `status_eq_shifts`, for the word RD_STATUS answers. -/
theorem rdStatusAnswersTheFlags : Obligations.RdStatusAnswersTheFlags := fun s =>
  congrArg (answerRead s · .okay) (status_eq_shifts s)

theorem lenLo_eq_ofNat (s : State) : s.lenLo = BitVec.ofNat 32 (s.len.toNat % 2 ^ 32) :=
  BitVec.eq_of_toNat_eq (by simp [State.lenLo])

theorem lenHi_eq_ofNat (s : State) : s.lenHi = BitVec.ofNat 32 (s.len.toNat / 2 ^ 32) := by
  rw [← Nat.shiftRight_eq_div_pow]
  rfl

/-- Settles O10: zero-extension keeps a register's number, and LEN is cut at bit 32. -/
theorem rdIeMvalidAndLenAnswerTheirRegister : Obligations.RdIeMvalidAndLenAnswerTheirRegister := fun s =>
  ⟨congrArg (answerRead s · .okay) (BitVec.ofNat_toNat 32 s.ie).symm,
    congrArg (answerRead s · .okay) (BitVec.ofNat_toNat 32 s.mvalid).symm,
    congrArg (answerRead s · .okay) (lenLo_eq_ofNat s), congrArg (answerRead s · .okay) (lenHi_eq_ofNat s)⟩

/-- Settles O11: each meaning answers the word of its own index. -/
theorem rdMsgAnswersTheBufferedWord : Obligations.RdMsgAnswersTheBufferedWord := fun _ =>
  ⟨rfl, rfl, rfl, rfl, rfl, rfl, rfl, rfl, rfl, rfl, rfl, rfl, rfl, rfl, rfl, rfl⟩

/-- Settles O12: `digestWord` is R240's choice on DONE, and each meaning gives it its own word of H. -/
theorem rdDigestAnswersOnlyWhenDone : Obligations.RdDigestAnswersOnlyWhenDone := fun _ => ⟨rfl, rfl, rfl, rfl, rfl⟩

/-! ### Writes (R243 to R246) -/

/-- DATA[2:0] as a number. -/
theorem extractLsb'_ie_eq_ofNat (data : Word) : data.extractLsb' 0 3 = BitVec.ofNat 3 (data.toNat % 8) :=
  BitVec.eq_of_toNat_eq (by simp)

/-- Settles O13: `writeIe` replaces IE alone, so irq reads the written bits beside the old flags. -/
theorem wrIeStoresEnablesAndIrqFollows : Obligations.WrIeStoresEnablesAndIrqFollows := by
  intro data s
  refine ⟨{ writeIe data s with rsp := some (.write .okay) }, rfl, ?_, ?_⟩
  · rw [← extractLsb'_ie_eq_ofNat]
    rfl
  · simp [State.irq]

/-- Settles O14: an idle MSG write is `writeMsg`'s store, with one bit set in MVALID. -/
theorem wrMsgStoresTheWordWhenIdle : Obligations.WrMsgStoresTheWordWhenIdle := by
  intro i data s hb
  rw [exec_wrMsgAt, writeMsg_of_idle hb]
  rfl

/-- Settles O15: a busy MSG write only raises MSG_BUSY, number 2. -/
theorem wrMsgIsRefusedWhenBusy : Obligations.WrMsgIsRefusedWhenBusy := by
  intro i data s hb
  rw [exec_wrMsgAt, writeMsg_of_busy hb, raiseError_eq]
  rfl

/-- Settles O16: the ten meanings are one, ERROR and the state as it was. -/
theorem wrReadOnlyAnswersError : Obligations.WrReadOnlyAnswersError := by
  intro data s i hi
  simp only [List.mem_cons, List.not_mem_nil, or_false] at hi
  obtain rfl | rfl | rfl | rfl | rfl | rfl | rfl | rfl | rfl | rfl := hi <;> rfl

/-! ### Accesses that reach no register (R241, R247) -/

/-- The misaligned and the reserved offsets are those of no register (20_memory.md R74, R75). -/
theorem registerOffset_eq_false (h : addr.toNat % 4 ≠ 0 ∨ addr = 0x1C#8 ∨ 0x74 ≤ addr.toNat) :
    registerOffset addr = false := by
  obtain hmis | rfl | hhigh := h
  · simp [registerOffset, hmis]
  · rfl
  · simp [registerOffset]
    omega

/-- A word with WR = 0 is read by its offset alone: DATA is ignored (30_encoding.md R101). -/
theorem decodeBus_read (addr : BitVec 8) (data : Word) : decodeBus (0#1 ++ addr ++ data) = decodeRead addr := by
  have hword : (0#1 ++ addr ++ data : BitVec 41).toNat = (0#1 ++ addr).toNat * 2 ^ 32 + data.toNat := append_toNat _ _
  rw [append_toNat 0#1 addr, BitVec.toNat_ofNat] at hword
  have hwr : busWr (0#1 ++ addr ++ data) = false := by
    rw [busWr_eq, hword, decide_eq_false_iff_not]
    omega
  have haddr : busAddr (0#1 ++ addr ++ data) = addr := by
    apply BitVec.eq_of_toNat_eq
    rw [busAddr_toNat, hword]
    omega
  rw [decodeBus_of_not_busWr hwr, haddr]

/-- Settles O17: neither decoder column has a row for the offset, and the two last rows change nothing. -/
theorem unmappedAccessAnswersError : Obligations.UnmappedAccessAnswersError := by
  intro addr data s h
  have hoff := registerOffset_eq_false h
  exact ⟨(decodeBus_read addr data).trans (decodeRead_of_not_registerOffset addr hoff), rfl,
    (decodeBus_busWriteWord addr data).trans (decodeWrite_of_not_registerOffset hoff data), rfl⟩

end Sys2Proof.Proofs

/-! PROOFS about the exceptions of 60_exceptions.md: that nothing stops the block, the first error kept, what clears it, and
the isolation of instances. -/

namespace Sys2Proof.Proofs

open Sys2Proof.Machine Sys2Proof.Laws

variable {i : Instr} {s u : State}

/-! ### No stop (R260) -/

/-- An engine turn answers a next state: with Q empty the state as it was, and otherwise the step of its phase. -/
theorem exists_engineStep (hs : StateInv s) : ∃ t, engineStep s = .next t := by
  by_cases hq : s.q = []
  · exact ⟨s, engineStep_of_empty hq⟩
  · obtain ⟨t, ht, -⟩ := engineStep_of_queued hs hq
    exact ⟨t, ht⟩

/-- Every instruction answers a next state, in a state of the invariant or not. -/
theorem exists_exec (i : Instr) (s : State) : ∃ t, exec i s = .next t := by
  obtain ⟨u, r, -, hx⟩ := exec_effect i s
  exact ⟨_, hx⟩

/-- Settles O7: a reset always has its next state, a transaction is an instruction, and the invariant enables the engine's
turn. -/
theorem nothingStopsTheBlock : Obligations.NothingStopsTheBlock := by
  refine ⟨exists_exec, fun s hs => ?_⟩
  match hin : s.inputs with
  | [] =>
    rw [step_of_no_input hin]
    exact exists_engineStep hs
  | .request r :: rest =>
    rw [step_of_request hin]
    exact exists_exec _ _
  | .engine :: rest =>
    rw [step_of_engine hin]
    exact exists_engineStep (stateInv_with_inputs hs rest)
  | .reset :: rest => exact ⟨_, step_of_reset hin⟩

/-! ### The first error (R261, R262, R265) -/

/-- Settles O29: the two cases of `raiseError`, and the numbers of R261. -/
theorem firstErrorIsKept : Obligations.FirstErrorIsKept :=
  ⟨fun _ _ => ⟨raiseError_of_no_err, raiseError_of_err⟩, rfl, rfl, rfl, rfl, rfl, rfl⟩

/-- In an errored session a transaction is an accepted INIT, or leaves ERR and ERRCODE as they were: a further error is
not recorded, and no BLOCK or FINAL is accepted. -/
theorem effect_err (h : Effect i s u) (herr : s.err = true) :
    (u.err = true ∧ u.errcode = s.errcode) ∨ (s.busy = false ∧ (i = .init ∨ i = .wrCmd 0x00000001#32)) := by
  cases h with
  | session hb hi => exact .inr ⟨hb, hi⟩
  | unchanged => exact .inl ⟨herr, rfl⟩
  | error c =>
    rw [raiseError_of_err herr]
    exact .inl ⟨herr, rfl⟩
  | store k d hb => exact .inl ⟨herr, rfl⟩
  | enable d => exact .inl ⟨herr, rfl⟩
  | block _ he _ _ _ _ => simp [herr] at he
  | final n _ he _ _ _ => simp [herr] at he

/-- Settles O30: apart from a reset and an accepted INIT, no transaction and no engine turn changes ERR or ERRCODE once ERR
is set. -/
theorem onlyInitAndResetClearErrors : Obligations.OnlyInitAndResetClearErrors := by
  intro s t h herr
  obtain ⟨rest, hin, -⟩ | ⟨r, rest, u, rsp, hin, he, rfl⟩ | ⟨-, rest, hx⟩ := step_events h
  · exact .inr (.inl ⟨rest, hin⟩)
  · obtain hkept | ⟨hb, hi⟩ := effect_err he herr
    · exact .inl hkept
    · exact .inr (.inr ⟨hb, r, rest, hin, hi⟩)
  · obtain ⟨-, -, -, -, hkeep, hcode, -, -⟩ := engineWritesOnlyItsOwnState _ _ hx
    exact .inl ⟨hkeep.trans herr, hcode⟩

/-! ### Instances (R277) -/

/-- A platform's step is the step of the block at its place, and puts the block's next state there. -/
theorem platformStep_eq_next {p p' : List BlockInstance} {k : Nat} {b : BlockInstance} (hk : p[k]? = some b)
    (h : platformStep k p = .next p') : ∃ s, step b.block = .next s ∧ p' = p.set k { b with block := s } := by
  simp only [platformStep, hk] at h
  cases hstep : step b.block with
  | next s =>
    rw [hstep] at h
    cases h
    exact ⟨s, rfl, rfl⟩
  | fault f => simp [hstep] at h
  | refused r => simp [hstep] at h

/-- Settles O60: setting one place of a list leaves the others. -/
theorem instancesShareNoState : Obligations.InstancesShareNoState := by
  intro p p' k b hk h
  obtain ⟨s, hs, rfl⟩ := platformStep_eq_next hk h
  have hlt : k < p.length := (List.getElem?_eq_some_iff.1 hk).1
  exact ⟨fun k' hne => List.getElem?_set_ne hne.symm, s, hs, List.getElem?_set_self hlt⟩

end Sys2Proof.Proofs

/-! PROOFS about the reset of 70_reset_and_hazards.md: the values it leaves, INIT right after it, and the values it leaves
open, which never show. -/

namespace Sys2Proof.Proofs

open Sys2Proof.Machine Sys2Proof.Laws

variable {i : Instr} {s s' t u : State}

/-! ### The reset values (R290 to R292, R294) -/

/-- Settles O52: the values are those of `State.reset`, and a reset pulse puts it in place of any state. -/
theorem resetLeavesTheStatedValues : Obligations.ResetLeavesTheStatedValues := by
  have hmsg : ∀ i (h : i < 16), State.reset.msg[i] = 0#32 := fun i h => by simp [State.reset]
  exact ⟨rfl, rfl, hmsg, rfl, rfl, rfl, rfl, rfl, rfl, rfl, rfl, rfl, rfl, rfl, fun _ _ => step_of_reset⟩

/-- Settles O53: the session that INIT starts is the one that reset leaves. -/
theorem initAfterResetChangesNothing : Obligations.InitAfterResetChangesNothing := initStartsASession State.reset rfl

/-! ### The part of the state with no reset value (R293) -/

/-- The pieces of state that R293 leaves open at reset. -/
structure Scratch where
  /-- The round counter. -/
  t : Nat
  /-- The expansion index. -/
  j : Nat
  /-- The working variables a, b, c, d, e. -/
  wv : FiveWords
  /-- The message schedule W. -/
  w : Sched

/-- The values a state holds in these pieces. -/
def scratchOf (s : State) : Scratch := ⟨s.t, s.j, s.wv, s.w⟩

/-- The state with other values in these pieces. -/
def withScratch (x : Scratch) (s : State) : State := { s with t := x.t, j := x.j, wv := x.wv, w := x.w }

/-- Two values agree on what the engine, in phase `p`, still reads before the next LOAD writes it: nothing before a LOAD; the
entries of W below j while it expands; j no more in the rounds; only the working variables at ACCUM (42_engine.md R182 to
R185). -/
def AgreeOnReads (p : Phase) (x y : Scratch) : Prop :=
  match p with
  | .idle | .load => True
  | .expand => x.t = y.t ∧ x.j = y.j ∧ x.wv = y.wv ∧ ∀ i, i < y.j → schedWord x.w i = schedWord y.w i
  | .round => x.t = y.t ∧ x.wv = y.wv ∧ x.w = y.w
  | .accum => x.wv = y.wv

/-- Two states that differ at most in scratch values that nothing reads any more. -/
def DifferInScratch (s s' : State) : Prop :=
  ∃ x, s' = withScratch x s ∧ AgreeOnReads s.phase x (scratchOf s)

/-! ### What two such states have in common -/

theorem agreeOnReads_refl (p : Phase) (x : Scratch) : AgreeOnReads p x x := by
  cases p
  case idle | load => trivial
  case expand => exact ⟨rfl, rfl, rfl, fun _ _ => rfl⟩
  case round => exact ⟨rfl, rfl, rfl⟩
  case accum => rfl

theorem DifferInScratch.refl (s : State) : DifferInScratch s s := ⟨scratchOf s, rfl, agreeOnReads_refl _ _⟩

theorem DifferInScratch.q (hs : DifferInScratch s s') : s'.q = s.q := by
  obtain ⟨x, rfl, -⟩ := hs
  rfl

theorem DifferInScratch.phase (hs : DifferInScratch s s') : s'.phase = s.phase := by
  obtain ⟨x, rfl, -⟩ := hs
  rfl

theorem DifferInScratch.inputs (hs : DifferInScratch s s') : s'.inputs = s.inputs := by
  obtain ⟨x, rfl, -⟩ := hs
  rfl

/-- While EXPAND lasts j is still read. -/
theorem DifferInScratch.expansion_index (hs : DifferInScratch s s') (hp : s.phase = .expand) : s'.j = s.j := by
  obtain ⟨x, rfl, hx⟩ := hs
  rw [hp] at hx
  obtain ⟨-, hj, -⟩ := hx
  exact hj

/-- While ROUND lasts t is still read. -/
theorem DifferInScratch.round_counter (hs : DifferInScratch s s') (hp : s.phase = .round) : s'.t = s.t := by
  obtain ⟨x, rfl, hx⟩ := hs
  rw [hp] at hx
  obtain ⟨ht, -⟩ := hx
  exact ht

/-! ### Transactions neither read nor write it -/

theorem raiseError_withScratch (c : ErrorCode) (x : Scratch) (s : State) :
    raiseError c (withScratch x s) = withScratch x (raiseError c s) := by
  simp only [raiseError, apply_ite (withScratch x)]
  rfl

theorem writeMsg_withScratch (k : Fin 16) (d : Word) (x : Scratch) (s : State) :
    writeMsg k d (withScratch x s) = withScratch x (writeMsg k d s) := by
  unfold writeMsg
  rw [apply_ite (withScratch x), raiseError_withScratch]
  rfl

theorem checkedAccept_withScratch (need : BitVec 16) (overflow : Bool) (accept : State → State)
    (haccept : accept (withScratch x s) = withScratch x (accept s)) :
    checkedAccept need overflow accept (withScratch x s) = withScratch x (checkedAccept need overflow accept s) := by
  simp only [checkedAccept, apply_ite (withScratch x), raiseError_withScratch, haccept]
  rfl

theorem commandWrite_withScratch (v : Word) (x : Scratch) (s : State) :
    commandWrite v (withScratch x s) = withScratch x (commandWrite v s) := by
  simp only [commandWrite, apply_ite (withScratch x), raiseError_withScratch]
  rfl

/-- An operation on the registers that commutes with an exchange of the scratch values does so as a transaction. -/
theorem answerWrite_withScratch {a a' : State} (h : a' = withScratch x a) (r : Resp) :
    ∃ t, answerWrite a r = .next t ∧ answerWrite a' r = .next (withScratch x t) := by
  subst h
  exact ⟨_, rfl, rfl⟩

/-- Every transaction commutes with an exchange of the scratch values. -/
theorem exec_withScratch (i : Instr) (x : Scratch) (s : State) :
    ∃ t, exec i s = .next t ∧ exec i (withScratch x s) = .next (withScratch x t) := by
  cases i
  case init =>
    refine answerWrite_withScratch ?_ _
    rw [apply_ite (withScratch x), raiseError_withScratch]
    rfl
  case block => exact answerWrite_withScratch (checkedAccept_withScratch _ _ acceptBlock rfl) _
  case final n => exact answerWrite_withScratch (checkedAccept_withScratch _ _ (acceptFinal n.toNat) rfl) _
  case cmdIllegal w => exact answerWrite_withScratch (raiseError_withScratch _ x s) _
  case wrCmd v => exact answerWrite_withScratch (commandWrite_withScratch v x s) _
  case wrMsg0 | wrMsg1 | wrMsg2 | wrMsg3 | wrMsg4 | wrMsg5 | wrMsg6 | wrMsg7 | wrMsg8 | wrMsg9 | wrMsg10 | wrMsg11 |
      wrMsg12 | wrMsg13 | wrMsg14 | wrMsg15 =>
    exact answerWrite_withScratch (writeMsg_withScratch _ _ x s) _
  all_goals exact ⟨_, rfl, rfl⟩

/-- A transaction keeps the phase and the scratch values, or queues work that starts with a LOAD. -/
theorem effect_scratch (h : Effect i s u) : (u.phase = s.phase ∧ scratchOf u = scratchOf s) ∨ u.phase = .load := by
  cases h with
  | unchanged | store | enable | session => exact .inl ⟨rfl, rfl⟩
  | error c => exact .inl (by simp [scratchOf])
  | block => exact .inr (by simp)
  | final => exact .inr (by simp)

theorem agreeOnReads_exec {x : Scratch} (hx : AgreeOnReads s.phase x (scratchOf s)) (h : exec i s = .next t) :
    AgreeOnReads t.phase x (scratchOf t) := by
  obtain ⟨u, r, he, rfl⟩ := exec_cases h
  change AgreeOnReads u.phase x (scratchOf u)
  obtain ⟨hp, hscratch⟩ | hp := effect_scratch he
  · rwa [hp, hscratch]
  · rw [hp]
    trivial

theorem DifferInScratch.exec (hs : DifferInScratch s s') (h : exec i s = .next t) :
    ∃ t', exec i s' = .next t' ∧ DifferInScratch t t' := by
  obtain ⟨x, rfl, hx⟩ := hs
  obtain ⟨v, hv, hx'⟩ := exec_withScratch i x s
  obtain rfl : t = v := by rw [h] at hv; injection hv
  exact ⟨_, hx', x, rfl, agreeOnReads_exec hx h⟩

/-! ### The engine reads only what LOAD has written -/

/-- LOAD sets the counters and the working variables, and the entries of W below j = 16. -/
theorem DifferInScratch.engineLoad (hs : DifferInScratch s s') (b : Block) :
    DifferInScratch (engineLoad b s) (engineLoad b s') := by
  obtain ⟨x, rfl, -⟩ := hs
  have hentries : ∀ i, i < 16 → schedWord (loadSchedule b x.w) i = schedWord (loadSchedule b s.w) i := fun i hi => by
    rw [schedWord_loadSchedule hi, schedWord_loadSchedule hi]
  exact ⟨⟨0, 16, s.h, loadSchedule b x.w⟩, rfl, rfl, rfl, rfl, hentries⟩

/-- Schedules that agree below the entry an expansion writes agree up to it afterwards. -/
theorem schedWord_expandAt_congr {w w' : Sched} {j : Nat} (h : ∀ i, i < j → schedWord w i = schedWord w' i) (hpos : 0 < j)
    (hj : j < 80) : ∀ i, i < j + 1 → schedWord (expandAt j w) i = schedWord (expandAt j w') i := by
  intro i hi
  rw [schedWord_expandAt i hj, schedWord_expandAt i hj, expandedWord_congr h hpos]
  split
  · rfl
  · exact h i (by omega)

/-- After the last expansion all 80 entries agree, so the schedules are the same. -/
theorem DifferInScratch.engineExpand (hs : DifferInScratch s s') (hp : s.phase = .expand) (hpos : 0 < s.j)
    (hj : s.j < 80) : DifferInScratch (engineExpand s) (engineExpand s') := by
  obtain ⟨⟨_, _, _, w⟩, rfl, hx⟩ := hs
  rw [hp] at hx
  obtain ⟨rfl, rfl, rfl, hw⟩ := hx
  have hentries := schedWord_expandAt_congr hw hpos hj
  refine ⟨⟨s.t, s.j + 1, s.wv, expandAt s.j w⟩, rfl, ?_⟩
  rw [engineExpand_phase]
  split
  · rename_i hlast
    exact ⟨rfl, rfl, sched_ext fun i hi => hentries i (hi.trans_eq hlast.symm)⟩
  · exact ⟨rfl, rfl, rfl, hentries⟩

theorem DifferInScratch.engineRound (hs : DifferInScratch s s') (hp : s.phase = .round) :
    DifferInScratch (engineRound s) (engineRound s') := by
  obtain ⟨⟨_, j, _, _⟩, rfl, hx⟩ := hs
  rw [hp] at hx
  obtain ⟨rfl, rfl, rfl⟩ := hx
  refine ⟨⟨s.t + 1, j, (Machine.engineRound s).wv, s.w⟩, rfl, ?_⟩
  rw [engineRound_phase]
  split
  · rfl
  · exact ⟨rfl, rfl, rfl⟩

/-- ACCUM leaves nothing that is still read. -/
theorem DifferInScratch.engineAccum (hs : DifferInScratch s s') (hp : s.phase = .accum) (rest : List Block) :
    DifferInScratch (engineAccum rest s) (engineAccum rest s') := by
  obtain ⟨⟨t, j, _, w⟩, rfl, hx⟩ := hs
  rw [hp] at hx
  obtain rfl := hx
  refine ⟨⟨t, j, s.wv, w⟩, ?_, ?_⟩
  · cases rest <;> rfl
  · rw [engineAccum_phase]
    split <;> trivial

theorem DifferInScratch.engineStep (hs : DifferInScratch s s') (h : engineStep s = .next t) :
    ∃ t', engineStep s' = .next t' ∧ DifferInScratch t t' := by
  obtain ⟨hq, rfl⟩ | ⟨b, rest, hq, hp, rfl⟩ | ⟨hq, hp, hlo, hhi, rfl⟩ | ⟨hq, hp, hle, rfl⟩ | ⟨b, rest, hq, hp, rfl⟩ :=
    engineStep_cases h
  · exact ⟨s', engineStep_of_empty (hs.q.trans hq), hs⟩
  · exact ⟨_, engineStep_load (hs.q.trans hq) (hs.phase.trans hp), hs.engineLoad b⟩
  · exact ⟨_, engineStep_expand (by rwa [hs.q]) (hs.phase.trans hp) (by rw [hs.expansion_index hp]; exact ⟨hlo, hhi⟩),
      hs.engineExpand hp (by omega) (by omega)⟩
  · exact ⟨_, engineStep_round (by rwa [hs.q]) (hs.phase.trans hp) (by rwa [hs.round_counter hp]), hs.engineRound hp⟩
  · exact ⟨_, engineStep_accum (hs.q.trans hq) (hs.phase.trans hp), hs.engineAccum hp rest⟩

/-! ### Steps and runs -/

theorem DifferInScratch.with_inputs (hs : DifferInScratch s s') (inputs : List Input) :
    DifferInScratch { s with inputs := inputs } { s' with inputs := inputs } := by
  obtain ⟨x, rfl, hx⟩ := hs
  exact ⟨x, rfl, hx⟩

theorem DifferInScratch.step (hs : DifferInScratch s s') (h : step s = .next t) :
    ∃ t', step s' = .next t' ∧ DifferInScratch t t' := by
  obtain ⟨hin, hx⟩ | ⟨r, rest, hin, hx⟩ | ⟨rest, hin, hx⟩ | ⟨rest, hin, rfl⟩ := step_cases h
  · rw [step_of_no_input (hs.inputs.trans hin)]
    exact hs.engineStep hx
  · rw [step_of_request (hs.inputs.trans hin)]
    exact (hs.with_inputs rest).exec hx
  · rw [step_of_engine (hs.inputs.trans hin)]
    exact (hs.with_inputs rest).engineStep hx
  · exact ⟨_, step_of_reset (hs.inputs.trans hin), .refl _⟩

/-- A run of n + 1 steps is a step and a run of n. -/
theorem run_succ_eq_next {n : Nat} {s t : State} :
    Host.Core.run core (n + 1) s = .next t ↔ ∃ u, step s = .next u ∧ Host.Core.run core n u = .next t := by
  have hcore : core.step s = Machine.step s := rfl
  simp only [Host.Core.run, hcore]
  cases Machine.step s <;> simp

theorem DifferInScratch.run {n : Nat} (hs : DifferInScratch s s') (h : Host.Core.run core n s = .next t) :
    ∃ t', Host.Core.run core n s' = .next t' ∧ DifferInScratch t t' := by
  induction n generalizing s s' with
  | zero =>
    cases h
    exact ⟨s', rfl, hs⟩
  | succ n ih =>
    obtain ⟨u, hu, hrun⟩ := run_succ_eq_next.1 h
    obtain ⟨u', hu', hs'⟩ := hs.step hu
    obtain ⟨t', ht', hfinal⟩ := ih hs' hrun
    exact ⟨t', run_succ_eq_next.2 ⟨u', hu', ht'⟩, hfinal⟩

/-- Settles O57: with phase IDLE after reset no scratch value is read, and every step of a run keeps what is read alike. -/
theorem unspecifiedResetValuesNeverShow : Obligations.UnspecifiedResetValuesNeverShow := by
  intro n inputs t j wv w u h
  have hs : DifferInScratch { State.reset with inputs := inputs }
      { State.reset with inputs := inputs, t := t, j := j, wv := wv, w := w } := ⟨⟨t, j, wv, w⟩, rfl, trivial⟩
  obtain ⟨u', hu', x, rfl, -⟩ := hs.run h
  exact ⟨_, hu', rfl, rfl, rfl, rfl, rfl, rfl, rfl, rfl, rfl, rfl, rfl, rfl, rfl, rfl⟩

end Sys2Proof.Proofs
